-- ==== Sys2Proof/Word.lean ====
section
/-! DEFINITION. The words of the part: bytes of the serial links, converter codes, bus characters. -/

namespace Sys2Proof

/-- A byte of a frame on any link. -/
abbrev Byte := BitVec 8

/-- A raw or corrected current-converter code, 0 to 4095 (chapter 2.5). -/
abbrev Code := BitVec 12

/-- A character on a diagnostic bus: bit 8 is the address mark, bits 7 to 0 the byte (chapter 11.6). -/
abbrev BusChar := BitVec 9

end Sys2Proof
end

