-- ==== Sys2Proof/Config.lean ====
section
/-! DEFINITION. Sizes the manual fixes (Tables 0-7, 2-7, 10-1) and the one free value. -/

namespace Sys2Proof.Config

/-- Input queue depth, requests (Table 10-1). -/
def inputDepth : Nat := 4
/-- Refusal list depth, replies (Table 10-1). -/
def refusalDepth : Nat := 4
/-- Event queue depth, events (Table 10-1). -/
def eventDepth : Nat := 32
/-- Inter-byte gap limit, ms (Table 10-1). -/
def gapLimit : Nat := 5
/-- Manifest capacity, records (R162). -/
def manifestDepth : Nat := 48
/-- Sample period, ms (Table 2-7). -/
def samplePeriod : Nat := 10
/-- Samples over a ceiling that make an overcurrent (R45). -/
def overcurrentCount : Nat := 3
/-- Samples under the dark threshold that make a dark drive (R45). -/
def darkCount : Nat := 100
/-- Control period of a zone, ms (R53). -/
def controlPeriod : Nat := 1000
/-- Where the consecutive-miss counter saturates (4.4). -/
def missMax : Nat := 8
/-- General places of an outbound queue (4.2). -/
def generalPlaces : Nat := 3
/-- Bytes a reply body holds after its status and flags (R197). -/
def replyBodyMax : Nat := 248
/-- Records one MANIFEST_TAKE reply carries (R163). -/
def takeMax : Nat := 6
/-- Priority of an autostarted slot (R20). -/
def autostartPriority : Nat := 1

/-- FREE VALUE (log 10). The temperature, in q, that a ZONE_START uses (R62) when no control period has yet
formed one for the zone, as a function of the zone and the shelf time. The manual states none. -/
opaque unreadTemperature : Nat → Nat → Int

end Sys2Proof.Config
end

