-- ==== Sys2Proof/Syntax.lean ====
section
/-! DEFINITION. The commands of the part, one constructor per row of spec/opcode_table.json, in the table's order. -/

namespace Sys2Proof

/-- A slot, 0 to 23 (Table 0-3). -/
abbrev SlotId := Fin 24
/-- A bay: its zone and its diagnostic bus carry the same number, 0 to 3 (chapter 1). -/
abbrev BayId := Fin 4
/-- A position in a bay, 0 to 5: the slot's address on its bus (chapter 1). -/
abbrev Position := Fin 6
/-- A plan, 0 to 7 (R101). -/
abbrev PlanId := Fin 8
/-- A lane, L0 to L5 (8.2). -/
abbrev LaneId := Fin 6

/-- The two links that carry the shelf frame envelope (Table 0-2). -/
inductive FrameLink where
  | cell | handler
  deriving DecidableEq, Repr

/-- What called for a warm reset (R195). -/
inductive ResetCause where
  | request | line
  deriving DecidableEq, Repr

/-- One sensor's answer to a read: its raw reading in q, or none where it does not answer (R54). -/
abbrev SensorRead := Option Int

/-- The two sensors' answers of one zone in one control period (R54). -/
structure ZoneReads where
  sensor0 : SensorRead
  sensor1 : SensorRead
  deriving DecidableEq, Repr

/-- A command: something that reaches the part or runs out in it. A request carries no operand of its own: its
operands are the tag and body of the frame at the head of the input queue (R182). -/
inductive Instr where
  /-- Power-on reset (R25), with what the sensors answer in the first control periods (R53). -/
  | powerOnReset (reads : Vector ZoneReads 4)
  /-- Warm reset (R195), with what the sensors answer in the first control periods (R76). -/
  | warmReset (cause : ResetCause) (reads : Vector ZoneReads 4)
  /-- Bytes arrive on the Cell Link, none more than the gap limit after the one before it (R180). -/
  | cellFrameReceived (bytes : List Byte)
  /-- The gap limit passes inside a frame being assembled on the link named (R180). -/
  | frameGapTimeout (link : FrameLink)
  /-- The transmission of a Cell Link frame completes (R184). -/
  | outboundFrameSent
  | unknownRequest
  | ping
  | shelfStatus
  | shelfConfig
  | tableWrite
  | tableRead
  | eventConfig
  | silenceConfig
  | shelfStop
  | shelfResume
  | restart
  /-- The silence timer runs out (R190). -/
  | silenceExpired
  | slotStart
  | slotAbort
  | slotRestart
  | slotQuery
  | slotSnapshot
  | diagSend
  | zoneStart
  | zoneStop
  | zoneClear
  | dispatchEnable
  | dispatchWithdraw
  | laneOpen
  | laneClose
  | manifestTake
  | handlerResume
  | transferConfirm
  /-- The raw presence switch of a slot takes a level; true is closed, a drive present (R6). -/
  | rawSwitchChange (slot : SlotId) (level : Bool)
  /-- The presence guard of a pending change runs out (R6). -/
  | presenceTaken (slot : SlotId)
  /-- The ready line of a slot takes a level (R39). -/
  | readyLineChange (slot : SlotId) (level : Bool)
  /-- The spin-up timer of a slot runs out (R42). -/
  | spinupTimeout (slot : SlotId)
  /-- The ready guard of a slot runs out (R41). -/
  | readyGuardExpiry (slot : SlotId)
  /-- The two converter channels of a slot are sampled (R44). -/
  | currentSample (slot : SlotId) (raw12 raw5 : Code)
  /-- A zone makes a control period (R53). -/
  | controlPeriod (zone : BayId) (reads : ZoneReads)
  /-- A zone makes the control period in which its hold timer expires (R64). -/
  | holdExpiry (zone : BayId) (reads : ZoneReads)
  /-- The arbiter of a bus grants a window (R85). -/
  | windowGrant (bus : BayId)
  /-- The last byte of the frame in flight on a bus is sent (R79). -/
  | driveFrameSent (bus : BayId)
  /-- Characters of a reply arrive on a bus and complete it (R87, R200). -/
  | driveReplyReceived (bus : BayId) (chars : List BusChar)
  /-- The reply wait runs out with no reply begun (R90). -/
  | replyWaitExpiry (bus : BayId)
  /-- A gap inside a reply exceeds the reply wait (R79). -/
  | replyGapTimeout (bus : BayId)
  /-- The poll clock of a slot runs for the poll interval (R84). -/
  | pollClockExpiry (slot : SlotId)
  /-- The gate wait timer of a slot's step runs out (R108). -/
  | gateWaitExpiry (slot : SlotId)
  /-- The timeout of a RUNNING DRIVE step runs out (R111). -/
  | driveTimeout (slot : SlotId)
  /-- The duration of a DWELL step runs out (R113). -/
  | dwellExpiry (slot : SlotId)
  /-- The off time of a CYCLE step runs out (R126). -/
  | cycleOffExpiry (slot : SlotId)
  /-- The on time of a CYCLE step runs out (R129). -/
  | cycleOnExpiry (slot : SlotId)
  /-- The spin-down wait of a slot runs out (R117). -/
  | spinDownExpiry (slot : SlotId)
  /-- A handler frame, its tag and its body's bytes (Table 11-9). -/
  | seatRequest (tag slot : Byte)
  | seatDone (tag slot : Byte)
  | handlerTaken (tag slot : Byte)
  | handlerRefused (tag slot reason : Byte)
  | handlerDone (tag slot : Byte)
  | handlerFailed (tag slot reason : Byte)
  | toteIn (tag lane : Byte)
  | toteOut (tag lane : Byte)
  /-- Bytes arrive on the Handler Link that complete no well-formed handler frame (R199). -/
  | handlerFrameMalformed (bytes : List Byte)
  | offerTimeout
  | carryTimeout
  | seatDoneWaitExpiry
  /-- The transmission of a frame to the handler completes (R199). -/
  | handlerFrameSent
  /-- Characters arrive on a bus, of which one with the mark set breaks the reply begun (R200). -/
  | replyBrokenByMarkByte (bus : BayId) (chars : List BusChar)
  deriving DecidableEq, Repr

end Sys2Proof
end

