-- ==== Sys2Proof/Decode.lean ====
section
/-! DEFINITION. The command a word spells by the bits of spec/opcode_table.json. The table gives no row any bits
(the part has no register window: 00_scope.md 0.1), so no word spells a command. -/

namespace Sys2Proof

/-- The command that a word of nbits bits spells: none, whatever the word. -/
def decodeTableWord (_nbits _w : Nat) : Option Instr :=
  none

end Sys2Proof
end

