-- ==== Sys2Proof/Machine/State.lean ====
section
/-! DEFINITION. Everything the manual says the part holds, as plain data, and its value at power-on reset. Numbers
the manual only counts or compares are Nat; temperatures and offsets are Int; bytes are bit vectors. -/

namespace Sys2Proof.Machine

/-! ### Names of the manual's enumerations, each in the order of its defining table or list -/

/-- Life states (Table 1-2). -/
inductive LifeState where
  | empty | reserved | seated | active | parking | dispatch | unloading | held | faulted
  deriving DecidableEq, Repr

/-- Causes of a SLOT event (Table 1-4). -/
inductive SlotCause where
  | seatGranted | seatReleased | seated | started | autostarted | planEnded | aborted | spunDown | taken
  | delivered | confirmed | withdrawn | powerFault | thermalFault | seatFault | restarted | pulled
  deriving DecidableEq, Repr

/-- Presence: the debounced state of a slot's switch (R6). -/
inductive Presence where
  | absent | present
  deriving DecidableEq, Repr

/-- Disposition (R21). -/
inductive Disposition where
  | hold | reject
  deriving DecidableEq, Repr

/-- Power phase (Table 2-3). -/
inductive PowerPhase where
  | off | queued | spinup | on
  deriving DecidableEq, Repr

/-- Fault cause of a FAULTED slot (R16, R9). -/
inductive FaultCause where
  | power | thermal | seat
  deriving DecidableEq, Repr

/-- Hold reason of a HELD slot (Table 1-1). -/
inductive HoldReason where
  | aborted | withdrawn | binHold | confirmedBack
  deriving DecidableEq, Repr

/-- Link state (chapter 4.4). -/
inductive LinkState where
  | ok | lost
  deriving DecidableEq, Repr

/-- Step phases (Table 5-4). -/
inductive StepPhase where
  | between | waitGate | starting | running | cycleOff | cycleAdmit | cycleOn
  deriving DecidableEq, Repr

/-- Reasons of a FAILED step (R4). -/
inductive FailReason where
  | drive | timeout | link | gate | aborted | power | thermal
  deriving DecidableEq, Repr

/-- Outcome of a step that has ended (R4). -/
inductive StepOutcome where
  | passed | failed (reason : FailReason) | skipped
  deriving DecidableEq, Repr

/-- Kinds of a step (Table 5-2). -/
inductive StepKind where
  | drive | dwell | cycle
  deriving DecidableEq, Repr

/-- Gates of a step (Table 5-2). -/
inductive Gate where
  | none | band | hold
  deriving DecidableEq, Repr

/-- On-fail actions of a step (Table 5-2). -/
inductive OnFail where
  | next | endPlan | reject
  deriving DecidableEq, Repr

/-- Run stages (Table 5-3). -/
inductive RunStage where
  | none | powerWait | identify | steps | parkWait | spinDown
  deriving DecidableEq, Repr

/-- Forced causes of a grading (R144). -/
inductive ForcedCause where
  | noSpin | dark | step | aborted
  deriving DecidableEq, Repr

/-- Reasons of a grade result (Table 7-4, Table 11-7). -/
inductive GradeReason where
  | scored | limit (metric : Fin 6) | noId | absent | noGrade | forced (cause : ForcedCause)
  deriving DecidableEq, Repr

/-- Kinds of an admission entry and of a spin-up (R30). -/
inductive SpinKind where
  | initial | cycle
  deriving DecidableEq, Repr

/-- Zone states (Table 3-2). -/
inductive ZoneState where
  | off | ramp | hold | cool | sensorFault | shutdown
  deriving DecidableEq, Repr

/-- Causes of a ZONE event (Table 3-3). -/
inductive ZoneCause where
  | started | setpointReached | nextSegment | looped | swapped | profileDone | stopped | cooled | sensorLost
  | sensorBack | sensorDegraded | trip | cleared
  deriving DecidableEq, Repr

/-- Lane states (Table 8-2). -/
inductive LaneState where
  | open | full | closed
  deriving DecidableEq, Repr

/-- Causes of a LANE event (Table 11-13). -/
inductive LaneCause where
  | toteOut | toteIn | opened | closed | capacity | full
  deriving DecidableEq, Repr

/-- Destination of a bin (Table 8-1). -/
inductive Destination where
  | lane (l : LaneId) | hold
  deriving DecidableEq, Repr

/-- Transfer states (Table 9-2). -/
inductive TransferState where
  | idle | offered | carrying | awaitingConfirm | seating
  deriving DecidableEq, Repr

/-- Kinds of a transfer (R165). -/
inductive TransferKind where
  | pick | seat
  deriving DecidableEq, Repr

/-- Deny reasons (Table 11-9). -/
inductive DenyReason where
  | busy | occupied | safe
  deriving DecidableEq, Repr

/-- NAK reasons (Table 11-9). -/
inductive NakReason where
  | range | wrongSlot | notExpected
  deriving DecidableEq, Repr

/-- Outcomes of TRANSFER_CONFIRM (R175). -/
inductive ConfirmOutcome where
  | inTote | inSlot | lost
  deriving DecidableEq, Repr

/-- Causes of a TRANSFER event with what each carries (Table 9-3, R166). -/
inductive TransferCause where
  | offered | taken | pulled | refused (reason : Byte) | noAnswer | done | failed (reason : Byte)
  | carryTimeout | confirmed (outcome : ConfirmOutcome) | granted | seated | seatFail
  | denied (reason : DenyReason)
  deriving DecidableEq, Repr

/-- Shelf modes (chapter 10.7). -/
inductive ShelfMode where
  | run | safe
  deriving DecidableEq, Repr

/-- Silence modes (Table 10-6). -/
inductive SilenceMode where
  | open | locked
  deriving DecidableEq, Repr

/-- Reply status codes (Table 0-6). -/
inductive Status where
  | ok | unknown | malformed | range | state | inUse | full | locked
  deriving DecidableEq, Repr

/-- Event classes (Table 10-5). -/
inductive EventClass where
  | slot | fault | grade | zone | transfer | lane | diag | snapshot | supervision
  deriving DecidableEq, Repr

/-! ### Bins -/

/-- A bin number (Table 7-4): 0 to 7 for G0 to G7, 8 REJECT, 9 RETEST. -/
abbrev BinId := Fin 10
/-- Bin REJECT. -/
def binReject : BinId := 8
/-- Bin RETEST. -/
def binRetest : BinId := 9

/-! ### The slot record (Table 1-1) -/

/-- The timer of a step: the instant it runs out, or the time it has left while frozen (R104, R108), in ms. -/
inductive StepTimer where
  | none | running (deadline : Nat) | frozen (left : Nat)
  deriving DecidableEq, Repr

/-- Step position (R104, R123). -/
structure StepPosition where
  index : Nat
  phase : StepPhase
  timer : StepTimer
  cycleNumber : Nat
  cycleCount : Nat
  deriving DecidableEq, Repr

/-- One entry of the step outcome list (R4). -/
structure OutcomeEntry where
  index : Nat
  outcome : StepOutcome
  deriving DecidableEq, Repr

/-- Identity of a drive (R95): all three fields are present together. -/
structure Identity where
  serial : List Byte
  model : Nat
  capacity : Nat
  deriving DecidableEq, Repr

/-- Running counters (R96). -/
structure Counters where
  kiloblocks : Nat
  retries : Nat
  newDefects : Nat
  progress : Nat
  temperature : Int
  deriving DecidableEq, Repr

/-- Metric record (R136). -/
structure MetricRecord where
  spin : Option Nat
  grow : Option Nat
  rrate : Option Nat
  texc : Option Nat
  link : Option Nat
  pcyc : Option Nat
  retryTotal : Nat
  kiloblockTotal : Nat
  deriving DecidableEq, Repr

/-- Grade result (R143). -/
structure GradeResult where
  bin : BinId
  score : Nat
  reason : GradeReason
  deriving DecidableEq, Repr

/-- The slot record. `reserved` is the slot's amount in the reservation ledger, tenths of an ampere (R27). -/
structure SlotRecord where
  life : LifeState
  presence : Presence
  plan : Option PlanId
  priority : Option (Fin 4)
  disposition : Option Disposition
  powerPhase : Option PowerPhase
  reserved : Nat
  powerOnAt : Option Nat
  powerOffAt : Option Nat
  position : Option StepPosition
  outcomes : List OutcomeEntry
  identity : Option Identity
  link : LinkState
  misses : Nat
  counters : Counters
  metrics : MetricRecord
  grade : Option GradeResult
  fault : Option FaultCause
  hold : Option HoldReason
  snapshot : Bool
  deriving DecidableEq, Repr

/-- Running counters all at zero. -/
def Counters.zero : Counters :=
  { kiloblocks := 0, retries := 0, newDefects := 0, progress := 0, temperature := 0 }

/-- Every metric absent, both accumulators at zero. -/
def MetricRecord.fresh : MetricRecord :=
  { spin := none, grow := none, rrate := none, texc := none, link := none, pcyc := none, retryTotal := 0,
    kiloblockTotal := 0 }

/-- A fresh record (R2) with a life state and a presence, the two parts that a refresh does not set. -/
def SlotRecord.fresh (life : LifeState) (presence : Presence) : SlotRecord :=
  { life, presence, plan := none, priority := none, disposition := none, powerPhase := none, reserved := 0,
    powerOnAt := none, powerOffAt := none, position := none, outcomes := [], identity := none, link := .ok,
    misses := 0, counters := .zero, metrics := .fresh, grade := none, fault := none, hold := none,
    snapshot := false }

/-! ### What the blocks keep for a slot beside its record -/

/-- The run's amounts, tenths of an ampere (R28). -/
structure RunAmounts where
  surge : Nat
  running : Nat
  deriving DecidableEq, Repr

/-- A spin-up in progress with its capture armed (R34, R39): the instant its timer runs out, the ready line's level
found at power-on, and whether a fall has been noted. -/
structure SpinUp where
  kind : SpinKind
  deadline : Nat
  startLevel : Bool
  fallNoted : Bool
  deriving DecidableEq, Repr

/-- The last reading of a current channel: the corrected code and the SATURATED mark (R44). -/
structure Reading where
  code : Nat
  saturated : Bool
  deriving DecidableEq, Repr

/-- No reading yet (R51). -/
def Reading.zero : Reading := { code := 0, saturated := false }

/-- The Power Sequencer's context of a slot. The 12 V and the 5 V rail are switched together (R34). -/
structure PowerContext where
  rails : Bool
  amounts : Option RunAmounts
  spinup : Option SpinUp
  guard : Option Nat
  over12 : Nat
  over5 : Nat
  dark : Nat
  last12 : Reading
  last5 : Reading
  sampleDue : Option Nat
  deriving DecidableEq, Repr

/-- Rails off, nothing running (R51). -/
def PowerContext.idle : PowerContext :=
  { rails := false, amounts := none, spinup := none, guard := none, over12 := 0, over5 := 0, dark := 0,
    last12 := .zero, last5 := .zero, sampleDue := none }

/-- Messages of the Step Sequencer (Table 4-2). -/
inductive Message where
  | identify | runTest (code : Byte) (argument : BitVec 32) | stopTest | park
  deriving DecidableEq, Repr

/-- The Step Sequencer's run context of a slot (5.2). -/
structure RunContext where
  stage : RunStage
  outstanding : Option Message
  deferred : Option Message
  spinDown : Option Nat
  deriving DecidableEq, Repr

/-- No run in progress (R104). -/
def RunContext.idle : RunContext :=
  { stage := .none, outstanding := none, deferred := none, spinDown := none }

/-- What a CONTINUE continues (R87): a Step Sequencer message, a poll, or a RAW frame with the tag of its send and
the number of the part the CONTINUE asks for (R98). -/
inductive Continued where
  | message (m : Message) | poll | raw (tag : Byte) (part : Nat)
  deriving DecidableEq, Repr

/-- A frame in a slot's outbound queue (Table 4-2). -/
inductive QueuedFrame where
  | message (m : Message)
  | raw (kind : Byte) (body : List Byte) (tag : Byte)
  | cont (of : Continued)
  deriving DecidableEq, Repr

/-- A slot's poll clock (R84). -/
inductive PollClock where
  | stopped | running (since : Nat) | run
  deriving DecidableEq, Repr

/-- The Diagnostic Bus Controller's context of a slot. -/
structure BusContext where
  queue : List QueuedFrame
  poll : PollClock
  deriving DecidableEq, Repr

/-- Nothing queued, poll clock stopped (R100). -/
def BusContext.idle : BusContext := { queue := [], poll := .stopped }

/-- The presence switch: its raw level (true is closed) and the pending change, as the instant at which its guard
runs out (R6, R7). -/
structure Switch where
  raw : Bool
  pending : Option Nat
  deriving DecidableEq, Repr

/-- All that is kept for one slot. -/
structure Slot where
  record : SlotRecord
  power : PowerContext
  run : RunContext
  bus : BusContext
  switch : Switch
  ready : Bool
  deriving DecidableEq, Repr

/-- A slot at power-on: fresh record, EMPTY, presence ABSENT (R25); switch open and ready line low (log 9). -/
def Slot.reset : Slot :=
  { record := .fresh .empty .absent, power := .idle, run := .idle, bus := .idle,
    switch := { raw := false, pending := none }, ready := false }

/-! ### Tables -/

/-- PLAN_HEAD entry (Table 5-1); amounts in tenths of an ampere. -/
structure PlanHead where
  stepCount : Nat
  surge : Nat
  running : Nat
  parkBeforeCycle : Bool
  deriving DecidableEq, Repr

/-- PLAN_STEP entry (Table 5-2). -/
structure PlanStep where
  kind : StepKind
  gate : Gate
  gateWait : Nat
  onFail : OnFail
  testCode : Byte
  argument : BitVec 32
  timeout : Nat
  duration : Nat
  cycleCount : Nat
  offTime : Nat
  onTime : Nat
  deriving DecidableEq, Repr

/-- PLAN_HEAD at power-on (Table 5-1). -/
def PlanHead.reset : PlanHead := { stepCount := 0, surge := 25, running := 8, parkBeforeCycle := false }

/-- PLAN_STEP at power-on (Table 5-2). -/
def PlanStep.reset : PlanStep :=
  { kind := .dwell, gate := .none, gateWait := 0, onFail := .next, testCode := 0, argument := 0, timeout := 600,
    duration := 60, cycleCount := 1, offTime := 10, onTime := 60 }

/-- ZONE_PARAM entry (Table 3-1). -/
structure ZoneParam where
  offset0 : Int
  offset1 : Int
  band : Nat
  kp : Nat
  bias : Nat
  kf : Nat
  fanFloor : Nat
  safeFan : Nat
  highLimit : Nat
  criticalLimit : Nat
  coolDone : Nat
  deriving DecidableEq, Repr

/-- ZONE_PARAM at power-on (Table 3-1). -/
def ZoneParam.reset : ZoneParam :=
  { offset0 := 0, offset1 := 0, band := 8, kp := 40, bias := 60, kf := 16, fanFloor := 64, safeFan := 255,
    highLimit := 340, criticalLimit := 380, coolDone := 140 }

/-- PROFILE_SEG entry (Table 3-4): target in q, ramp rate in q per minute, hold in minutes. -/
structure Segment where
  target : Int
  rate : Nat
  hold : Nat
  deriving DecidableEq, Repr

/-- A profile: PROFILE_HEAD entry and twelve segments (R58). -/
structure Profile where
  segmentCount : Nat
  loopCount : Nat
  segments : Vector Segment 12
  deriving DecidableEq, Repr

/-- PROFILE_SEG at power-on (Table 3-4). -/
def Segment.reset : Segment := { target := 80, rate := 0, hold := 0 }

/-- An empty profile, as at power-on (Table 3-4). -/
def Profile.reset : Profile :=
  { segmentCount := 0, loopCount := 1, segments := Vector.replicate 12 .reset }

/-- METRIC entry (Table 7-2). -/
structure MetricEntry where
  allowance : Nat
  weight : Nat
  rejectLimit : Nat
  deriving DecidableEq, Repr

/-- GRADE entry (Table 7-3); `required` has bit k for metric k. -/
structure GradeEntry where
  enabled : Bool
  ceiling : Nat
  required : BitVec 6
  deriving DecidableEq, Repr

/-- LANE entry (Table 8-2). -/
structure Lane where
  capacity : Nat
  count : Nat
  toteSequence : Nat
  state : LaneState
  deriving DecidableEq, Repr

/-- LANE at power-on (Table 8-2). -/
def Lane.reset : Lane := { capacity := 20, count := 0, toteSequence := 0, state := .open }

/-! ### Zones (chapter 3) -/

/-- A zone's position in its profile (3.1): `holdLeft` counts the control periods of HOLD still to make. -/
structure ZonePosition where
  segment : Nat
  loop : Nat
  acc : Int
  holdLeft : Nat
  deriving DecidableEq, Repr

/-- A zone report (R74). -/
structure ZoneReport where
  state : ZoneState
  inBand : Bool
  setpoint : Option Int
  temperature : Option Int
  deriving DecidableEq, Repr

/-- A zone. `entry` is its ZONE_PARAM entry as last written, and `param` the parameters in force, which every control
period takes from the entry (R68, R70). `left` is the state remembered in SENSOR_FAULT (R56) and means nothing
elsewhere. -/
structure Zone where
  entry : ZoneParam
  param : ZoneParam
  active : Profile
  staged : Option Profile
  state : ZoneState
  left : ZoneState
  position : Option ZonePosition
  degraded : Bool
  reading0 : Option Int
  reading1 : Option Int
  temperature : Option Int
  heater : Nat
  fan : Nat
  report : ZoneReport
  periodDue : Nat
  deriving DecidableEq, Repr

/-- A zone at power-on, before its first control period (R76; log 9). -/
def Zone.reset : Zone :=
  { entry := .reset, param := .reset, active := .reset, staged := none, state := .off, left := .off, position := none,
    degraded := false, reading0 := none, reading1 := none, temperature := none, heater := 0, fan := 64,
    report := { state := .off, inBand := false, setpoint := none, temperature := none }, periodDue := 0 }

/-! ### Admission queue (chapter 2.2) -/

/-- An entry of the admission queue (R30). -/
structure AdmissionEntry where
  slot : SlotId
  priority : Fin 4
  surge : Nat
  kind : SpinKind
  deriving DecidableEq, Repr

/-! ### Diagnostic buses (chapter 4) -/

/-- The frame in flight in a window: a poll's REPORT, which is never queued, or a frame of the slot's queue (R86). -/
inductive BusFrame where
  | poll | queued (f : QueuedFrame)
  deriving DecidableEq, Repr

/-- Where a window stands: its frame is being sent, it awaits the reply until an instant (with the reply wait in
force and the reply's bytes so far, R79, R200), or the exchange is over and its effects are being made (R87). -/
inductive WindowStage where
  | sending | awaiting (deadline wait : Nat) (bytes : List Byte) (lastAt : Nat) | deciding
  deriving DecidableEq, Repr

/-- A window (R85, R86). `removed` marks a frame removed while in flight (R81). -/
structure Window where
  position : Position
  count : Nat
  frame : BusFrame
  stage : WindowStage
  removed : Bool
  deriving DecidableEq, Repr

/-- A diagnostic bus: its open window and its round-robin pointer (R85). -/
structure Bus where
  window : Option Window
  pointer : Position
  deriving DecidableEq, Repr

/-- A bus after either reset (R100). -/
def Bus.reset : Bus := { window := none, pointer := 5 }

/-! ### Dispatch Unit (chapter 8) -/

/-- An entry of the dispatch queue (R156). -/
structure DispatchEntry where
  slot : SlotId
  bin : BinId
  offered : Bool
  deriving DecidableEq, Repr

/-- Why dispatch stalled (R160): REFUSED with the handler's reason, or NO_ANSWER. -/
inductive StallCause where
  | refused (reason : Byte) | noAnswer
  deriving DecidableEq, Repr

/-- The stall flag while STALLED (R160). -/
structure Stall where
  cause : StallCause
  slot : SlotId
  lane : LaneId
  deriving DecidableEq, Repr

/-- A manifest record (Table 8-4). -/
structure ManifestRecord where
  number : Nat
  slot : SlotId
  identity : Option Identity
  bin : BinId
  score : Nat
  reason : GradeReason
  lane : LaneId
  toteSequence : Nat
  place : Nat
  confirmed : Bool
  deriving DecidableEq, Repr

/-- The Dispatch Unit's own state besides its tables. -/
structure DispatchUnit where
  queue : List DispatchEntry
  enabled : Bool
  stall : Option Stall
  manifest : List ManifestRecord
  nextRecord : Nat
  deriving DecidableEq, Repr

/-- The Dispatch Unit at power-on (R164). -/
def DispatchUnit.reset : DispatchUnit :=
  { queue := [], enabled := false, stall := none, manifest := [], nextRecord := 1 }

/-! ### Handler Link Port (chapter 9) -/

/-- Where a pick stands (Table 9-2). -/
inductive PickState where
  | offered | carrying | awaitingConfirm
  deriving DecidableEq, Repr

/-- The transfer record (R165): each state holds exactly its own fields. -/
inductive Transfer where
  | idle
  | pick (state : PickState) (slot : SlotId) (lane : LaneId) (start : Nat)
  | seat (slot : SlotId) (start : Nat) (seatDone : Bool)
  deriving DecidableEq, Repr

/-- A frame to the handler (Table 11-9); ACK and NAK name the kind they answer, and all but PICK carry the tag of
the frame answered (R199). -/
inductive HandlerFrame where
  | pick (slot : SlotId) (lane : LaneId) (tag : Byte)
  | grant (slot : SlotId) (tag : Byte)
  | deny (slot : SlotId) (reason : DenyReason) (tag : Byte)
  | ack (kind tag : Byte)
  | nak (kind : Byte) (reason : NakReason) (tag : Byte)
  deriving DecidableEq, Repr

/-- A frame receiver (R180): hunting, or assembling with the bytes that followed the sync byte and the
instant of the frame's last byte. -/
inductive Receiver where
  | hunting | assembling (bytes : List Byte) (lastAt : Nat)
  deriving DecidableEq, Repr

/-- The Handler Link Port. `timer` is the timer Table 9-2 gives the record's state. -/
structure HandlerPort where
  transfer : Transfer
  timer : Option Nat
  closedSeat : Option SlotId
  pickTag : Byte
  rx : Receiver
  out : List HandlerFrame
  line : Option HandlerFrame
  deriving DecidableEq, Repr

/-- The Handler Link Port at power-on (R179, R199). -/
def HandlerPort.reset : HandlerPort :=
  { transfer := .idle, timer := none, closedSeat := none, pickTag := 0, rx := .hunting, out := [], line := none }

/-! ### Events (chapter 10.5) -/

/-- The channel of an OVERCURRENT (Table 11-13). -/
inductive Channel where
  | v12 | v5 | both
  deriving DecidableEq, Repr

/-- A drive's step state (R78). -/
inductive DriveState where
  | idle | running | passed | failed
  deriving DecidableEq, Repr

/-- A STATE_REPORT (R78), progress already brought to at most 100 (R79). -/
structure StateReport where
  state : DriveState
  testCode : Byte
  progress : Nat
  temperature : Int
  kiloblocks : Nat
  retries : Nat
  newDefects : Nat
  deriving DecidableEq, Repr

/-- Why a DIAG_SEND ended without a reply (R83, R92). -/
inductive SendEnd where
  | noPower | lost
  deriving DecidableEq, Repr

/-- Causes of a SUPERVISION event (Table 11-13). -/
inductive SupervisionCause where
  | silenceExpired | stopped | resumed | restarted (cause : ResetCause)
  deriving DecidableEq, Repr

/-- The events the part offers, with the fields of Table 11-13. -/
inductive Event where
  | slot (slot : SlotId) (left entered : LifeState) (cause : SlotCause)
  | step (slot : SlotId) (index : Nat) (kind : StepKind) (outcome : StepOutcome)
  | overcurrent (slot : SlotId) (channel : Channel) (code12 code5 : Option Reading) (phase : PowerPhase)
  | dark (slot : SlotId) (code12 : Reading)
  | noSpin (slot : SlotId) (kind : SpinKind)
  | graded (slot : SlotId) (plan : Option PlanId) (grade : GradeResult) (replaced : Bool)
  | zone (zone : BayId) (left entered : ZoneState) (cause : ZoneCause) (temperature : Option Int)
      (position : Option (Nat × Nat)) (sensor : Option (Fin 2))
  | transfer (kind : Option TransferKind) (slot : Option SlotId) (lane : Option LaneId)
      (left entered : TransferState) (cause : TransferCause)
  | lane (lane : LaneId) (cause : LaneCause) (left : LaneState) (now : Lane)
  | manifestFull (count : Nat)
  | diagReply (slot : SlotId) (tag : Byte) (part : Nat) (kind : Byte) (continues : Bool) (body : List Byte)
  | diagEnd (slot : SlotId) (tag : Byte) (status : SendEnd) (part : Nat)
  | linkLost (slot : SlotId) (link : Option Nat)
  | linkOk (slot : SlotId)
  | snapshot (slot : SlotId) (index : Nat) (testCode : Byte) (report : StateReport)
  | snapshotNoStep (slot : SlotId)
  | supervision (cause : SupervisionCause)
  deriving DecidableEq, Repr

/-! ### Cell Link Port (chapter 10) -/

/-- A request as framed (R181). -/
structure Request where
  kind : Byte
  tag : Byte
  body : List Byte
  deriving DecidableEq, Repr

/-- A reply (R183): `body` is the request's own reply body, after status and flags (R197). -/
structure Reply where
  kind : Byte
  tag : Byte
  status : Status
  adjusted : Bool
  body : List Byte
  deriving DecidableEq, Repr

/-- A frame on the outbound line (R184): a FULL reply of the refusal list, the reply of a request taken, or an
event with its number. -/
inductive OutFrame where
  | refusal (kind tag : Byte) | reply (r : Reply) | event (number : Byte) (e : Event)
  deriving DecidableEq, Repr

/-- Whether RESTART has been taken, and whether its reply has been sent, so that the warm reset is due (R195). -/
inductive RestartStage where
  | none | called | due
  deriving DecidableEq, Repr

/-- The nine class enables (R189). -/
structure Enables where
  slot : Bool
  fault : Bool
  grade : Bool
  zone : Bool
  transfer : Bool
  lane : Bool
  diag : Bool
  snapshot : Bool
  supervision : Bool
  deriving DecidableEq, Repr

/-- Every class disabled (R189). -/
def Enables.clear : Enables :=
  { slot := false, fault := false, grade := false, zone := false, transfer := false, lane := false,
    diag := false, snapshot := false, supervision := false }

/-- The receiving and sending sides of the Cell Link. -/
structure CellPort where
  rx : Receiver
  input : List Request
  refusals : List (Byte × Byte)
  reply : Option Reply
  line : Option OutFrame
  restart : RestartStage
  deriving DecidableEq, Repr

/-- The Cell Link at power-on (Table 10-7). -/
def CellPort.reset : CellPort :=
  { rx := .hunting, input := [], refusals := [], reply := none, line := none, restart := .none }

/-- The event queue and what goes with it (R188). -/
structure EventPort where
  queue : List (Byte × Event)
  enables : Enables
  next : Byte
  lost : Bool
  deriving DecidableEq, Repr

/-- The event queue at power-on (Table 10-7). -/
def EventPort.reset : EventPort := { queue := [], enables := .clear, next := 0, lost := false }

/-- The silence supervision (10.6): period in s, and the instant the timer runs out while it runs. -/
structure Silence where
  mode : SilenceMode
  period : Nat
  timer : Option Nat
  expired : Bool
  deriving DecidableEq, Repr

/-- The silence supervision at power-on, its timer started at the reset (Table 10-7, R190). -/
def Silence.reset : Silence := { mode := .open, period := 30, timer := some 30000, expired := false }

/-! ### Shelf settings (Table 10-4) -/

/-- The shelf settings: budget in tenths of an ampere, poll interval and offer time in tenths of a second. -/
structure Settings where
  presenceGuard : Nat
  autostart : Option PlanId
  budget : Nat
  spinupTimeout : Nat
  readyGuard : Nat
  surgeCeiling : Nat
  runCeiling : Nat
  fiveCeiling : Nat
  darkThreshold : Nat
  darkMask : BitVec 24
  replyWait : Nat
  pollInterval : Nat
  retryLimit : Nat
  quantum : Nat
  spinDownWait : Nat
  offerTime : Nat
  carryTime : Nat
  deriving DecidableEq, Repr

/-- Table 10-4's defaults. -/
def Settings.reset : Settings :=
  { presenceGuard := 200, autostart := none, budget := 300, spinupTimeout := 20, readyGuard := 50,
    surgeCeiling := 400, runCeiling := 250, fiveCeiling := 300, darkThreshold := 10, darkMask := 0,
    replyWait := 20, pollInterval := 20, retryLimit := 2, quantum := 4, spinDownWait := 20, offerTime := 20,
    carryTime := 30 }

/-! ### The state -/

/-- The part. `now` is the shelf time in ms. `admissionDue` and `pickDue` are the model's own: the present command
has called for an admission run (R33) or a pick selection (R160), made once its other effects are complete (log 8).
`pending` is the model's queue of commands. -/
structure State where
  now : Nat
  mode : ShelfMode
  settings : Settings
  cell : CellPort
  events : EventPort
  silence : Silence
  slots : Vector Slot 24
  admission : Vector (List AdmissionEntry) 4
  planHeads : Vector PlanHead 8
  planSteps : Vector PlanStep 128
  zones : Vector Zone 4
  buses : Vector Bus 4
  metricTable : Vector MetricEntry 6
  gradeTable : Vector GradeEntry 8
  binMap : Vector Destination 10
  lanes : Vector Lane 6
  offsets : Vector Int 48
  dispatch : DispatchUnit
  handler : HandlerPort
  admissionDue : Bool
  pickDue : Bool
  pending : List Instr
  deriving DecidableEq, Repr

/-- METRIC at power-on (Table 7-2). -/
def metricTableReset : Vector MetricEntry 6 :=
  #v[⟨0, 0, 65535⟩, ⟨0, 0, 65535⟩, ⟨0, 0, 65535⟩, ⟨0, 0, 255⟩, ⟨0, 0, 255⟩, ⟨0, 0, 255⟩]

/-- The part after power-on reset, before the first control periods, which need what the sensors answer and so
belong to POWER_ON_RESET (R25, R51, R76, R100, R122, R149, R164, R179, Table 10-7; log 9). -/
def State.reset : State :=
  { now := 0, mode := .run, settings := .reset, cell := .reset, events := .reset, silence := .reset,
    slots := Vector.replicate 24 .reset, admission := Vector.replicate 4 [],
    planHeads := Vector.replicate 8 .reset, planSteps := Vector.replicate 128 .reset,
    zones := Vector.replicate 4 .reset, buses := Vector.replicate 4 .reset,
    metricTable := metricTableReset,
    gradeTable := Vector.replicate 8 { enabled := false, ceiling := 0, required := 0 },
    binMap := Vector.replicate 10 .hold, lanes := Vector.replicate 6 .reset, offsets := Vector.replicate 48 0,
    dispatch := .reset, handler := .reset, admissionDue := false, pickDue := false, pending := [] }

/-! ### Stops -/

/-- Reasons the part could stop with a fault. There are none: no command stops the part (INVENTORY.md, Faults).
Safe: nothing raises one. -/
inductive Fault where

/-- Reasons for having no meaning for a command. -/
inductive Refusal where
  /-- Raised by exec's arm of a command that is not modelled yet. Safe: nothing is claimed of it. -/
  | notModelled (mnemonic : String)
  deriving DecidableEq, Repr

end Sys2Proof.Machine
end

