-- ==== Sys2Proof/Machine/Ops.lean ====
section
/-! DEFINITION. The named operations over State: reading and writing the parts of a slot, a zone, a bus; offering
an event; shelf time; slot numbers. Everything else is written over these. -/

namespace Sys2Proof.Machine

/-! ### Slots, bays and positions (chapter 1) -/

/-- The bay of a slot: the slot divided by 6, rounded down (chapter 1). -/
def bayOf (i : SlotId) : BayId := ⟨i.val / 6, by omega⟩

/-- The position of a slot in its bay (chapter 1). -/
def positionOf (i : SlotId) : Position := ⟨i.val % 6, by omega⟩

/-- The slot at a position of a bay (chapter 1). -/
def slotAt (b : BayId) (p : Position) : SlotId := ⟨6 * b.val + p.val, by omega⟩

/-- All slots, ascending. -/
def allSlots : List SlotId := List.finRange 24

/-- The six slots of a bay, ascending. -/
def baySlots (b : BayId) : List SlotId := (List.finRange 6).map (slotAt b)

/-- All bays, zones and buses, ascending. -/
def allBays : List BayId := List.finRange 4

/-! ### Reading and writing parts of the state -/

/-- Slot i. -/
def State.slot (s : State) (i : SlotId) : Slot := s.slots[i.val]

/-- Slot i replaced. -/
def State.setSlot (s : State) (i : SlotId) (x : Slot) : State :=
  { s with slots := s.slots.set i.val x }

/-- Slot i changed by f. -/
def State.modSlot (s : State) (i : SlotId) (f : Slot → Slot) : State :=
  s.setSlot i (f (s.slot i))

/-- The slot record of slot i (R1). -/
def State.record (s : State) (i : SlotId) : SlotRecord := (s.slot i).record

/-- The slot record of slot i changed by f. -/
def State.modRecord (s : State) (i : SlotId) (f : SlotRecord → SlotRecord) : State :=
  s.modSlot i fun x => { x with record := f x.record }

/-- The power context of slot i. -/
def State.power (s : State) (i : SlotId) : PowerContext := (s.slot i).power

/-- The power context of slot i changed by f. -/
def State.modPower (s : State) (i : SlotId) (f : PowerContext → PowerContext) : State :=
  s.modSlot i fun x => { x with power := f x.power }

/-- The run context of slot i. -/
def State.run (s : State) (i : SlotId) : RunContext := (s.slot i).run

/-- The run context of slot i changed by f. -/
def State.modRun (s : State) (i : SlotId) (f : RunContext → RunContext) : State :=
  s.modSlot i fun x => { x with run := f x.run }

/-- The bus context of slot i. -/
def State.slotBus (s : State) (i : SlotId) : BusContext := (s.slot i).bus

/-- The bus context of slot i changed by f. -/
def State.modSlotBus (s : State) (i : SlotId) (f : BusContext → BusContext) : State :=
  s.modSlot i fun x => { x with bus := f x.bus }

/-- Zone z. -/
def State.zone (s : State) (z : BayId) : Zone := s.zones[z.val]

/-- Zone z changed by f. -/
def State.modZone (s : State) (z : BayId) (f : Zone → Zone) : State :=
  { s with zones := s.zones.set z.val (f (s.zone z)) }

/-- Bus b. -/
def State.bus (s : State) (b : BayId) : Bus := s.buses[b.val]

/-- Bus b changed by f. -/
def State.modBus (s : State) (b : BayId) (f : Bus → Bus) : State :=
  { s with buses := s.buses.set b.val (f (s.bus b)) }

/-- Lane l. -/
def State.lane (s : State) (l : LaneId) : Lane := s.lanes[l.val]

/-- Lane l replaced. -/
def State.setLane (s : State) (l : LaneId) (x : Lane) : State :=
  { s with lanes := s.lanes.set l.val x }

/-- PLAN_HEAD entry p (R101). -/
def State.planHead (s : State) (p : PlanId) : PlanHead := s.planHeads[p.val]

/-- PLAN_STEP entry of step k of plan p (R101): entry p × 16 + k. -/
def State.planStep (s : State) (p : PlanId) (k : Nat) : PlanStep :=
  (s.planSteps[p.val * 16 + k]?).getD .reset

/-- The destination the bin map gives a bin (R150). -/
def State.destination (s : State) (b : BinId) : Destination := s.binMap[b.val]

/-- The state changed by f at each slot of a list, in the list's order. -/
def State.forSlots (s : State) (l : List SlotId) (f : SlotId → State → State) : State :=
  l.foldl (fun t i => f i t) s

/-! ### Shelf time -/

/-- An instant has come: shelf time is at least that instant (log 1). -/
def State.reach (s : State) (t : Nat) : State := { s with now := max s.now t }

/-! ### Events (R188) -/

/-- The class of an event (Table 10-5). -/
def Event.eventClass : Event → EventClass
  | .slot .. | .step .. => .slot
  | .overcurrent .. | .dark .. | .noSpin .. => .fault
  | .graded .. => .grade
  | .zone .. => .zone
  | .transfer .. => .transfer
  | .lane .. | .manifestFull .. => .lane
  | .diagReply .. | .diagEnd .. | .linkLost .. | .linkOk .. => .diag
  | .snapshot .. | .snapshotNoStep .. => .snapshot
  | .supervision .. => .supervision

/-- The enable of a class (R189). -/
def Enables.allows (e : Enables) : EventClass → Bool
  | .slot => e.slot
  | .fault => e.fault
  | .grade => e.grade
  | .zone => e.zone
  | .transfer => e.transfer
  | .lane => e.lane
  | .diag => e.diag
  | .snapshot => e.snapshot
  | .supervision => e.supervision

/-- An event offered to the event queue (R188): discarded when its class is disabled, otherwise numbered, and
queued or, where the queue holds 32, lost with the events-lost flag set. -/
def EventPort.offer (p : EventPort) (e : Event) : EventPort :=
  if p.enables.allows e.eventClass then
    if p.queue.length < Config.eventDepth then
      { p with queue := p.queue ++ [(p.next, e)], next := p.next + 1 }
    else
      { p with next := p.next + 1, lost := true }
  else p

/-- An event offered by a block (R188). -/
def State.offer (s : State) (e : Event) : State := { s with events := s.events.offer e }

/-! ### Work called for by an event, made after its other effects (R33, R160; log 8) -/

/-- An admission run is called for (R33). -/
def State.callAdmission (s : State) : State := { s with admissionDue := true }

/-- A pick selection is called for (R160). -/
def State.callPick (s : State) : State := { s with pickDue := true }

/-! ### Arithmetic the manual names -/

/-- A value brought into a range: clamped to the nearer end (Table 0-5). -/
def clampNat (lo hi v : Nat) : Nat := max lo (min hi v)

/-- A signed value brought into a range (Table 0-5). -/
def clampInt (lo hi v : Int) : Int := max lo (min hi v)

/-- A counter raised by an amount, saturating at its maximum (chapter 0, Units and quantities). -/
def saturate (hi v : Nat) : Nat := min hi v

end Sys2Proof.Machine
end

