-- ==== Sys2Proof/Machine/Formats.lean ====
section
/-! DEFINITION. Chapter 11 as functions: field encodings, the two CRCs, the shelf frame envelope and its receiver,
drive frames, and the bodies of events and replies. -/

namespace Sys2Proof.Machine

/-! ### Field encodings (Table 11-1) -/

/-- A number in n bytes, most significant byte first (Table 11-1). -/
def be : Nat → Nat → List Byte
  | 0, _ => []
  | n + 1, v => BitVec.ofNat 8 (v / 256 ^ n) :: be n v

/-- A signed number in n bytes, two's complement (Table 11-1). -/
def beInt (n : Nat) (v : Int) : List Byte := be n ((v % (256 ^ n : Nat)).toNat)

/-- The number that bytes carry, most significant byte first (Table 11-1). -/
def unbe (l : List Byte) : Nat := l.foldl (fun a b => a * 256 + b.toNat) 0

/-- The signed number that bytes carry (Table 11-1). -/
def unbeInt (l : List Byte) : Int :=
  let m := 256 ^ l.length
  let v := unbe l
  if 2 * v < m then (v : Int) else (v : Int) - (m : Int)

/-- One byte holding a number (Table 11-1). -/
def byte (v : Nat) : Byte := BitVec.ofNat 8 v

/-- Set or clear: one byte, 1 or 0 (Table 11-1). -/
def flagByte (b : Bool) : Byte := if b then 1 else 0

/-- A byte of flags, bit 0 first. -/
def flagBits (l : List Bool) : Nat := l.foldr (fun b a => 2 * a + (if b then 1 else 0)) 0

/-- An optional number: its bytes are 0 where it is absent (R196). -/
def beOption (n : Nat) (v : Option Nat) : List Byte := be n (v.getD 0)

/-- A serial number: 20 bytes, left-aligned, unused bytes 0 (Table 11-1). -/
def serialBytes (s : List Byte) : List Byte := (s ++ List.replicate 20 0).take 20

/-- A printable character, 0x20 to 0x7E (Table 11-1). -/
def printable (b : Byte) : Bool := decide (0x20 ≤ b.toNat ∧ b.toNat ≤ 0x7E)

/-- The characters of a serial number field, where it is valid: 1 to 20 printable characters followed only by 0x00
bytes (R196). -/
def serialOf (field : List Byte) : Option (List Byte) :=
  let s := field.takeWhile printable
  if field.length = 20 ∧ s ≠ [] ∧ (field.drop s.length).all (· == 0) then some s else none

/-! ### CRCs (R197) -/

/-- One bit of the CRC-16: shift left, and subtract the generator x^16 + x^12 + x^5 + 1 where a one falls out. -/
def crc16Bit (c : BitVec 16) : BitVec 16 := if c.msb then (c <<< 1) ^^^ 0x1021 else c <<< 1

/-- One byte into the CRC-16, most significant bit first. -/
def crc16Byte (c : BitVec 16) (b : Byte) : BitVec 16 :=
  Nat.repeat crc16Bit 8 (c ^^^ (b.zeroExtend 16 <<< 8))

/-- The CRC-16 of bytes: the register starts at all ones, no final inversion (R197). -/
def crc16 (l : List Byte) : BitVec 16 := l.foldl crc16Byte 0xFFFF

/-- One bit of the CRC-8 with generator x^8 + x^2 + x + 1. -/
def crc8Bit (c : BitVec 8) : BitVec 8 := if c.msb then (c <<< 1) ^^^ 0x07 else c <<< 1

/-- One byte into the CRC-8, most significant bit first. -/
def crc8Byte (c : BitVec 8) (b : Byte) : BitVec 8 := Nat.repeat crc8Bit 8 (c ^^^ b)

/-- The CRC-8 of bytes: the register starts at 0x00, no final inversion (R197). -/
def crc8 (l : List Byte) : BitVec 8 := l.foldl crc8Byte 0

/-! ### The shelf frame envelope (Table 11-2) and its receiver (R180) -/

/-- The sync byte (Table 11-2). -/
def syncByte : Byte := 0xC3

/-- A frame's bytes after the sync byte and before the CRC: length, kind, tag, body. -/
def envelopeBytes (kind tag : Byte) (body : List Byte) : List Byte :=
  be 2 (body.length + 2) ++ kind :: tag :: body

/-- A frame as it stands on the line (Table 11-2). -/
def frameBytes (kind tag : Byte) (body : List Byte) : List Byte :=
  let inner := envelopeBytes kind tag body
  syncByte :: inner ++ be 2 (crc16 inner).toNat

/-- The receiver as a byte at shelf time now finds it: a partial frame whose last byte came more than the gap limit
before is discarded (R180, Table 10-1). -/
def Receiver.afterGap (r : Receiver) (now : Nat) : Receiver :=
  match r with
  | .assembling _ lastAt => if lastAt + Config.gapLimit < now then .hunting else r
  | .hunting => .hunting

/-- What one byte at shelf time now does to a receiver: the receiver after it and the valid frame it completes, if any
(R180). The length is judged as soon as its two bytes are in, the CRC when the frame is complete. -/
def Receiver.feed (r : Receiver) (now : Nat) (b : Byte) : Receiver × Option Request :=
  match r.afterGap now with
  | .hunting => (if b = syncByte then .assembling [] now else .hunting, none)
  | .assembling got _ =>
    let l := got ++ [b]
    let n := unbe (l.take 2)
    if l.length < 2 then (.assembling l now, none)
    else if n < 2 ∨ 252 < n then (.hunting, none)
    else if l.length < n + 4 then (.assembling l now, none)
    else
      let inner := l.take (n + 2)
      match inner.drop 2 with
      | kind :: tag :: body =>
        if unbe (l.drop (n + 2)) = (crc16 inner).toNat then (.hunting, some { kind, tag, body })
        else (.hunting, none)
      | _ => (.hunting, none)

/-- A run of bytes at shelf time now through a receiver: the receiver after it and the valid frames it completed, in
order. -/
def Receiver.feedAll (r : Receiver) (now : Nat) : List Byte → Receiver × List Request
  | [] => (r, [])
  | b :: bs =>
    let (r1, f) := r.feed now b
    let (r2, fs) := r1.feedAll now bs
    (r2, f.toList ++ fs)

/-- The instant at which the gap limit of the frame being assembled runs out; none while hunting (R180). -/
def Receiver.gapDeadline : Receiver → Option Nat
  | .assembling _ lastAt => some (lastAt + Config.gapLimit)
  | .hunting => none

/-! ### Drive frames (Tables 11-10, 11-11) -/

/-- Kind code of a Step Sequencer message (Table 11-11). -/
def Message.code : Message → Byte
  | .identify => 0x01
  | .runTest _ _ => 0x03
  | .stopTest => 0x04
  | .park => 0x05

/-- Body of a Step Sequencer message (Table 11-11). -/
def Message.body : Message → List Byte
  | .runTest code argument => code :: be 4 argument.toNat
  | _ => []

/-- Kind code and body of the frame in flight (Tables 11-11, 4-2). -/
def BusFrame.content : BusFrame → Byte × List Byte
  | .poll => (0x02, [])
  | .queued (.message m) => (m.code, m.body)
  | .queued (.raw kind body _) => (kind, body)
  | .queued (.cont _) => (0x06, [])

/-- The characters of a frame of the part on the bus (Table 11-10): the address byte alone carries the mark. -/
def busChars (p : Position) (f : BusFrame) : List BusChar :=
  let (kind, body) := f.content
  let bytes := byte p.val :: kind :: byte body.length :: body
  match bytes ++ [crc8 bytes] with
  | [] => []
  | a :: rest => (0x100 ||| a.zeroExtend 9) :: rest.map (·.zeroExtend 9)

/-- The address mark of a character. -/
def BusChar.mark (c : BusChar) : Bool := c.msb

/-- The byte of a character. -/
def BusChar.data (c : BusChar) : Byte := c.truncate 8

/-- The bytes of a reply are all in: address, kind, length, as many body bytes as the length says, and CRC (R200); a
length above 60 is judged when the reply is complete. -/
def replyComplete (l : List Byte) : Bool :=
  match l with
  | _ :: _ :: n :: rest => decide (n.toNat + 1 ≤ rest.length)
  | _ => false

/-- Where a run of characters leaves the reply being assembled (R200). -/
inductive Assembly where
  | partialReply (bytes : List Byte) | complete (bytes : List Byte) | broken
  deriving DecidableEq, Repr

/-- Characters taken while a reply is awaited (R200): those without the mark are ignored until one with the mark
begins the reply; a second mark breaks it; what follows the end is discarded. -/
def assemble (got : List Byte) : List BusChar → Assembly
  | [] => .partialReply got
  | c :: cs =>
    match got with
    | [] => if BusChar.mark c then assemble [BusChar.data c] cs else assemble [] cs
    | _ :: _ =>
      if BusChar.mark c then .broken
      else
        let l := got ++ [BusChar.data c]
        if replyComplete l then .complete l else assemble l cs

/-- A reply's bytes as fields: address, kind, continues flag, body (Table 11-10), where its CRC is good and its
length is at most 60. -/
def replyFields (l : List Byte) : Option (Byte × Byte × Bool × List Byte) :=
  match l with
  | address :: kind :: n :: rest =>
    let body := rest.take n.toNat
    if n.toNat ≤ 60 ∧ rest.drop n.toNat = [crc8 (address :: kind :: n :: body)] then
      some (address, kind &&& 0x7F, kind.msb, body)
    else none
  | _ => none

/-! ### Kind codes -/

/-- Kind codes of the handler's frames and the part's (Table 11-9). -/
def HandlerFrame.content : HandlerFrame → Byte × Byte × List Byte
  | .pick slot lane tag => (0x50, tag, [byte slot.val, byte lane.val])
  | .grant slot tag => (0x51, tag, [byte slot.val])
  | .deny slot reason tag => (0x52, tag, [byte slot.val, byte reason.ctorIdx])
  | .ack kind tag => (0x53, tag, [kind])
  | .nak kind reason tag => (0x54, tag, [kind, byte reason.ctorIdx])

/-- A frame to the handler as it stands on the line. -/
def HandlerFrame.bytes (f : HandlerFrame) : List Byte :=
  let (kind, tag, body) := f.content
  frameBytes kind tag body

/-! ### Codes of reasons (Table 11-7) -/

/-- Code of a step outcome (Table 11-7). -/
def StepOutcome.code : StepOutcome → Byte
  | .passed => 0
  | .failed _ => 1
  | .skipped => 2

/-- Code of a step's reason: 0 where none, then DRIVE 1 to THERMAL 7 (Table 11-7). -/
def StepOutcome.reasonCode : StepOutcome → Byte
  | .failed r => byte (r.ctorIdx + 1)
  | _ => 0

/-- Reason of a grade result (Table 11-7). -/
def GradeReason.code : GradeReason → Byte
  | .scored => 0
  | .limit _ => 1
  | .noId => 2
  | .absent => 3
  | .noGrade => 4
  | .forced _ => 5

/-- Reason detail of a grade result (Table 11-7). -/
def GradeReason.detail : GradeReason → Byte
  | .limit m => byte m.val
  | .forced c => byte c.ctorIdx
  | _ => 0

/-! ### Event bodies (Table 11-13) -/

/-- Kind code of an event (Table 11-3). -/
def Event.code : Event → Byte
  | .slot .. => 0x80
  | .step .. => 0x81
  | .overcurrent .. | .dark .. | .noSpin .. => 0x82
  | .graded .. => 0x83
  | .zone .. => 0x84
  | .transfer .. => 0x85
  | .lane .. | .manifestFull .. => 0x86
  | .diagReply .. | .diagEnd .. => 0x87
  | .linkLost .. => 0x88
  | .linkOk .. => 0x89
  | .snapshot .. | .snapshotNoStep .. => 0x8A
  | .supervision .. => 0x8B

/-- Code of a TRANSFER cause (Table 9-3 order). -/
def TransferCause.code : TransferCause → Byte
  | .offered => 0
  | .taken => 1
  | .pulled => 2
  | .refused _ => 3
  | .noAnswer => 4
  | .done => 5
  | .failed _ => 6
  | .carryTimeout => 7
  | .confirmed _ => 8
  | .granted => 9
  | .seated => 10
  | .seatFail => 11
  | .denied _ => 12

/-- Detail of a TRANSFER event (Table 11-13). -/
def TransferCause.detail : TransferCause → Byte
  | .refused r | .failed r => r
  | .confirmed o => byte o.ctorIdx
  | .denied d => byte d.ctorIdx
  | _ => 0

/-- A code of a FAULT event is present where the channel is over and not SATURATED (log 15). -/
def Reading.hasCode : Option Reading → Bool
  | some r => !r.saturated
  | none => false

/-- A channel of a FAULT event is SATURATED. -/
def Reading.isSaturated : Option Reading → Bool
  | some r => r.saturated
  | none => false

/-- The code bytes of a channel of a FAULT event. -/
def Reading.codeBytes (r : Option Reading) : List Byte :=
  be 2 (if Reading.hasCode r then (r.map Reading.code).getD 0 else 0)

/-- The body of a FAULT event (Table 11-13). -/
def faultBody (slot : SlotId) (kind : Nat) (c12 c5 : Option Reading) (where? : Option (Channel × PowerPhase)) :
    List Byte :=
  [byte slot.val, byte kind,
    byte (flagBits [Reading.hasCode c12, Reading.hasCode c5, Reading.isSaturated c12, Reading.isSaturated c5,
      where?.isSome]),
    byte ((where?.map fun w => w.1.ctorIdx).getD 0)]
  ++ Reading.codeBytes c12 ++ Reading.codeBytes c5 ++ [byte ((where?.map fun w => w.2.ctorIdx).getD 0)]

/-- The drive's fields of a SNAPSHOT event (Table 11-13). -/
def StateReport.bytes (r : StateReport) : List Byte :=
  [byte r.state.ctorIdx, r.testCode, byte r.progress] ++ beInt 1 r.temperature ++ be 4 r.kiloblocks
  ++ be 3 r.retries ++ be 2 r.newDefects

/-- The body of an event (Table 11-13). A FAULT event of kind NO_SPIN or CYCLE_NO_SPIN carries neither channel's code
(DESIGN CHOICE, log 51). -/
def Event.body : Event → List Byte
  | .slot i left entered cause => [byte i.val, byte left.ctorIdx, byte entered.ctorIdx, byte cause.ctorIdx]
  | .step i k kind o => [byte i.val, byte k, byte kind.ctorIdx, o.code, o.reasonCode]
  | .overcurrent i ch c12 c5 phase => faultBody i 0 c12 c5 (some (ch, phase))
  | .dark i c12 => faultBody i 1 (some c12) none none
  | .noSpin i .initial => faultBody i 2 none none none
  | .noSpin i .cycle => faultBody i 3 none none none
  | .graded i plan g replaced =>
    [byte i.val, byte (flagBits [plan.isSome, replaced]), byte ((plan.map Fin.val).getD 0), byte g.bin.val]
    ++ be 2 g.score ++ [g.reason.code, g.reason.detail]
  | .zone z left entered cause temp pos sensor =>
    [byte z.val, byte left.ctorIdx, byte entered.ctorIdx, byte cause.ctorIdx,
      byte (flagBits [temp.isSome, pos.isSome, sensor.isSome])] ++ beInt 2 (temp.getD 0)
    ++ [byte ((pos.map Prod.fst).getD 0), byte ((pos.map Prod.snd).getD 0), byte ((sensor.map Fin.val).getD 0)]
  | .transfer kind i l left entered cause =>
    [byte (flagBits [kind.isSome, i.isSome, l.isSome]), byte ((kind.map TransferKind.ctorIdx).getD 0),
      byte ((i.map Fin.val).getD 0), byte ((l.map Fin.val).getD 0), byte left.ctorIdx,
      byte entered.ctorIdx, cause.code, cause.detail]
  | .lane l cause left x =>
    [1, byte l.val, byte cause.ctorIdx, byte left.ctorIdx, byte x.state.ctorIdx, byte x.count, byte x.capacity]
    ++ be 2 x.toteSequence
  | .manifestFull n => [0, 0, 6, 0, 0, byte n, 0, 0, 0]
  | .diagReply i tag part kind continues body =>
    [byte i.val, tag, 0, byte part, byte (flagBits [true, continues]), kind, byte body.length] ++ body
  | .diagEnd i tag e part =>
    [byte i.val, tag, (match e with | .noPower => 1 | .lost => 2), byte part, 0, 0, 0]
  | .linkLost i link => [byte i.val, flagByte link.isSome, byte (link.getD 0)]
  | .linkOk i => [byte i.val]
  | .snapshot i k code r => [byte i.val, 0, byte k, code] ++ r.bytes
  | .snapshotNoStep i => byte i.val :: 1 :: List.replicate 15 0
  | .supervision c =>
    match c with
    | .silenceExpired => [0, 0]
    | .stopped => [1, 0]
    | .resumed => [2, 0]
    | .restarted cause => [3, byte cause.ctorIdx]

/-! ### Frames on the Cell Link (R197) -/

/-- The body of a reply: status, flags, and the request's own reply body (R197). -/
def Reply.fullBody (r : Reply) : List Byte := byte r.status.ctorIdx :: flagByte r.adjusted :: r.body

/-- A frame of the outbound line as it stands on the line (R197). -/
def OutFrame.bytes : OutFrame → List Byte
  | .refusal kind tag => frameBytes kind tag [byte Status.full.ctorIdx, 0]
  | .reply r => frameBytes r.kind r.tag r.fullBody
  | .event n e => frameBytes e.code n e.body

end Sys2Proof.Machine
end

