-- ==== Sys2Proof/Machine/Flags.lean ====
section
/-! DEFINITION. Conditions and values the manual derives from the state: the reserved sum, a slot's plan and step,
powered and due slots, plans in use, the committed lane, a zone's setpoint and band, gates. -/

namespace Sys2Proof.Machine

/-- The reserved sum: the total of the 24 amounts of the ledger, tenths of an ampere (R27). -/
def State.reservedSum (s : State) : Nat := (s.slots.toList.map fun x => x.record.reserved).sum

/-- The slot is powered for the buses: power phase SPINUP or ON (R84). -/
def State.powered (s : State) (i : SlotId) : Bool :=
  (s.record i).powerPhase == some .spinup || (s.record i).powerPhase == some .on

/-- The header of the slot's plan (R101). -/
def State.slotHead (s : State) (i : SlotId) : PlanHead :=
  match (s.record i).plan with
  | some p => s.planHead p
  | none => .reset

/-- The index of the slot's present step (R104). -/
def State.stepIndex (s : State) (i : SlotId) : Nat :=
  match (s.record i).position with
  | some q => q.index
  | none => 0

/-- The entry of the slot's present step (R101). -/
def State.slotStep (s : State) (i : SlotId) : PlanStep :=
  match (s.record i).plan with
  | some p => s.planStep p (s.stepIndex i)
  | none => .reset

/-- The slot runs its steps and its present step is in the phase named (R104). -/
def State.inPhase (s : State) (i : SlotId) (phase : StepPhase) : Bool :=
  (s.run i).stage == .steps && (s.record i).position.map StepPosition.phase == some phase

/-- A step of the slot has begun and not ended (R107): it has left BETWEEN. -/
def State.stepBegun (s : State) (i : SlotId) : Bool :=
  (s.run i).stage == .steps && !s.inPhase i .between

/-- A DRIVE step of the slot is RUNNING (R110). -/
def State.driveRunning (s : State) (i : SlotId) : Bool :=
  s.inPhase i .running && (s.slotStep i).kind == .drive

/-- The instant at which the slot's step timer runs out, where it runs (R104). -/
def State.stepDeadline (s : State) (i : SlotId) : Option Nat :=
  match (s.record i).position with
  | some q => match q.timer with
    | .running d => some d
    | _ => none
  | none => none

/-- The slot's poll clock has run for the poll interval (R84, R99). -/
def State.pollRun (s : State) (i : SlotId) : Bool :=
  match (s.slotBus i).poll with
  | .run => true
  | .running since => decide (since + s.settings.pollInterval * 100 ≤ s.now)
  | .stopped => false

/-- The slot is due for a window (R84). -/
def State.due (s : State) (i : SlotId) : Bool :=
  s.powered i &&
    (!(s.slotBus i).queue.isEmpty || s.pollRun i || ((s.record i).snapshot && s.driveRunning i))

/-- Another slot of the bus than the one at position p is due (R88). -/
def State.otherDue (s : State) (b : BayId) (p : Position) : Bool :=
  (List.finRange 6).any fun q => q != p && s.due (slotAt b q)

/-- Positions in the order the arbiter searches them: from the one after the pointer, the pointer last (R85). -/
def searchOrder (pointer : Position) : List Position :=
  (List.finRange 6).map fun k => ⟨(pointer.val + 1 + k.val) % 6, by omega⟩

/-- The position the arbiter grants next, where a slot of the bus is due (R85). -/
def State.nextDue (s : State) (b : BayId) : Option Position :=
  (searchOrder (s.bus b).pointer).find? fun p => s.due (slotAt b p)

/-- The open window of the slot's bus, where it is the slot's (R89). -/
def State.slotWindow (s : State) (i : SlotId) : Option Window :=
  match (s.bus (bayOf i)).window with
  | some w => if w.position = positionOf i then some w else none
  | none => none

/-- The plan is in use: a slot is ACTIVE with that plan number (R103). -/
def State.planInUse (s : State) (p : PlanId) : Bool :=
  s.slots.toList.any fun x => x.record.life == .active && x.record.plan == some p

/-- The lane is committed: the transfer record holds a pick naming it (R152). -/
def State.committed (s : State) (l : LaneId) : Bool :=
  match s.handler.transfer with
  | .pick _ _ lane _ => lane == l
  | _ => false

/-- A lane's floor: its count, plus 1 while it is committed (R152). -/
def State.laneFloor (s : State) (l : LaneId) : Nat :=
  (s.lane l).count + (if s.committed l then 1 else 0)

/-- The state a lane's count gives it, unless it is CLOSED (R152). -/
def Lane.byCount (x : Lane) : LaneState := if x.count < x.capacity then .open else .full

/-- The slot's dispatch-queue entry is marked offered (R157). -/
def State.isOffered (s : State) (i : SlotId) : Bool :=
  s.dispatch.queue.any fun e => e.slot == i && e.offered

/-- State of the transfer record (Table 9-2). -/
def Transfer.state : Transfer → TransferState
  | .idle => .idle
  | .pick .offered _ _ _ => .offered
  | .pick .carrying _ _ _ => .carrying
  | .pick .awaitingConfirm _ _ _ => .awaitingConfirm
  | .seat _ _ _ => .seating

/-- Kind of the transfer record, present outside IDLE (R165). -/
def Transfer.kind : Transfer → Option TransferKind
  | .idle => none
  | .pick .. => some .pick
  | .seat .. => some .seat

/-- Slot of the transfer record, present outside IDLE (R165). -/
def Transfer.slot : Transfer → Option SlotId
  | .idle => none
  | .pick _ i _ _ => some i
  | .seat i _ _ => some i

/-- Lane of the transfer record, present for a pick (R165). -/
def Transfer.lane : Transfer → Option LaneId
  | .pick _ _ l _ => some l
  | _ => none

/-- Start time of the transfer record, present outside IDLE (R165). -/
def Transfer.start : Transfer → Option Nat
  | .idle => none
  | .pick _ _ _ t => some t
  | .seat _ t _ => some t

/-- Seat-done mark of the transfer record, present in SEATING (R165). -/
def Transfer.seatDone : Transfer → Option Bool
  | .seat _ _ d => some d
  | _ => none

/-! ### Zones -/

/-- The zone runs its profile: RAMP or HOLD (3.1). -/
def ZoneState.runs : ZoneState → Bool
  | .ramp | .hold => true
  | _ => false

/-- The working setpoint in q: the accumulator divided by 60, rounded down; present in RAMP and HOLD (R67). -/
def Zone.setpoint (z : Zone) : Option Int :=
  if z.state.runs then z.position.map fun p => p.acc / 60 else none

/-- In band: in RAMP or HOLD, the temperature differs from the setpoint by no more than the band (R67). A zone with no
temperature yet is not in band (DESIGN CHOICE, log 56). -/
def Zone.inBand (z : Zone) : Bool :=
  match z.setpoint, z.temperature with
  | some w, some t => decide (t - w ≤ z.param.band ∧ w - t ≤ z.param.band)
  | _, _ => false

/-- The zone report of the zone as it stands (R74). -/
def Zone.formReport (z : Zone) : ZoneReport :=
  { state := z.state, inBand := z.inBand, setpoint := z.setpoint, temperature := z.temperature }

/-- The duties R68 computes from the error: heater and fan. -/
def ZoneParam.controlDuties (p : ZoneParam) (e : Int) : Nat × Nat :=
  ((clampInt 0 255 ((p.bias : Int) + Int.tdiv ((p.kp : Int) * e) 4)).toNat,
   (clampInt p.fanFloor 255 ((p.fanFloor : Int) + Int.tdiv ((p.kf : Int) * (if e < 0 then -e else 0)) 4)).toNat)

/-- The heater and fan duties of the zone in a shelf mode (R68, R69 Table 3-5). In RAMP or HOLD in RUN with no
temperature yet they are 0 and the fan floor (DESIGN CHOICE, log 56). -/
def Zone.duties (z : Zone) (mode : ShelfMode) : Nat × Nat :=
  match z.state with
  | .shutdown | .sensorFault => (0, 255)
  | .off | .cool => match mode with
    | .safe => (0, z.param.safeFan)
    | .run => (0, z.param.fanFloor)
  | .ramp | .hold => match mode with
    | .safe => (0, z.param.safeFan)
    | .run => match z.setpoint, z.temperature with
      | some w, some t =>
        let d := z.param.controlDuties (w - t)
        (if (z.param.highLimit : Int) < t then 0 else d.1, d.2)
      | _, _ => (0, z.param.fanFloor)

/-- A report meets a gate (R107): BAND in RAMP or HOLD and in band, HOLD in HOLD and in band. -/
def ZoneReport.meets (r : ZoneReport) : Gate → Bool
  | .none => true
  | .band => r.state.runs && r.inBand
  | .hold => r.state == .hold && r.inBand

/-- The latest report of the slot's zone (R74). -/
def State.slotReport (s : State) (i : SlotId) : ZoneReport := (s.zone (bayOf i)).report

end Sys2Proof.Machine
end

