-- ==== Sys2Proof/Machine/Grading.lean ====
section
/-! DEFINITION. The Grading Unit (chapter 7): RRATE, the score, the decision and the grade table search. -/

namespace Sys2Proof.Machine

/-- The metric of an index (Table 7-1). -/
def MetricRecord.value (m : MetricRecord) (k : Fin 6) : Option Nat :=
  match k with
  | 0 => m.spin
  | 1 => m.grow
  | 2 => m.rrate
  | 3 => m.texc
  | 4 => m.link
  | 5 => m.pcyc

/-- RRATE from the retry total and the kiloblock total (R141): absent where nothing was handled, otherwise
(R × 2048 + K) / (2 × K) rounded down and brought down to 65535. -/
def rrateOf (retries kiloblocks : Nat) : Option Nat :=
  if kiloblocks = 0 then none
  else some (min 65535 ((retries * 2048 + kiloblocks) / (2 * kiloblocks)))

/-- A metric's term of the score (R142): weight times excess over the allowance, brought down to 65535; an absent
metric contributes none. -/
def metricTerm (e : MetricEntry) : Option Nat → Nat
  | none => 0
  | some v => min 65535 (e.weight * (v - e.allowance))

/-- The score (R142): the sum of the terms, brought down to 65535. -/
def scoreOf (table : Vector MetricEntry 6) (m : MetricRecord) : Nat :=
  min 65535 (((List.finRange 6).map fun k => metricTerm table[k.val] (m.value k)).sum)

/-- The first present metric above its reject limit, in index order (R144 step 2). -/
def overLimit (table : Vector MetricEntry 6) (m : MetricRecord) : Option (Fin 6) :=
  (List.finRange 6).find? fun k =>
    match m.value k with
    | some v => decide ((table[k.val]).rejectLimit < v)
    | none => false

/-- Every metric of a required set is present (R145). -/
def requiredPresent (required : BitVec 6) (m : MetricRecord) : Bool :=
  (List.finRange 6).all fun k => !required.getLsbD k.val || (m.value k).isSome

/-- The entry is enabled and its ceiling is not below the score (R145). -/
def GradeEntry.considers (e : GradeEntry) (score : Nat) : Bool := e.enabled && decide (score ≤ e.ceiling)

/-- The grade table search (R145). -/
def gradeSearch (table : Vector GradeEntry 8) (m : MetricRecord) (score : Nat) : BinId × GradeReason :=
  match (List.finRange 8).find? fun g =>
      (table[g.val]).considers score && requiredPresent (table[g.val]).required m with
  | some g => (⟨g.val, by omega⟩, .scored)
  | none =>
    if (List.finRange 8).any fun g => (table[g.val]).considers score then (binRetest, .absent)
    else (binReject, .noGrade)

/-- The decision: forced, limit, identity, grade table, the first that gives a result (R144). -/
def gradeDecision (metrics : Vector MetricEntry 6) (grades : Vector GradeEntry 8) (m : MetricRecord)
    (hasIdentity : Bool) (forced : Option ForcedCause) (score : Nat) : BinId × GradeReason :=
  match forced with
  | some c => (binReject, .forced c)
  | none =>
    match overLimit metrics m with
    | some k => (binReject, .limit k)
    | none => if hasIdentity then gradeSearch grades m score else (binRetest, .noId)

/-- The metric record with RRATE set by a grading (R141). -/
def MetricRecord.graded (m : MetricRecord) : MetricRecord :=
  { m with rrate := rrateOf m.retryTotal m.kiloblockTotal }

/-- The grade result a record gets from tables (R143 steps 1 to 3). -/
def gradeOf (metrics : Vector MetricEntry 6) (grades : Vector GradeEntry 8) (r : SlotRecord)
    (forced : Option ForcedCause) : GradeResult :=
  let m := r.metrics.graded
  let score := scoreOf metrics m
  let d := gradeDecision metrics grades m r.identity.isSome forced score
  { bin := d.1, score := score, reason := d.2 }

/-- A grading of the slot (R143): RRATE, score, decision, the grade result written, GRADED offered (R146). -/
def State.grade (s : State) (i : SlotId) (forced : Option ForcedCause) : State :=
  let r := s.record i
  let g := gradeOf s.metricTable s.gradeTable r forced
  (s.modRecord i fun x => { x with metrics := x.metrics.graded, grade := some g }).offer
    (.graded i r.plan g r.grade.isSome)

end Sys2Proof.Machine
end

