-- ==== Sys2Proof/Machine/Life.lean ====
section
/-! DEFINITION. The Slot Table's shared operations: making a record fresh (R2) and changing a life state (R3, R5). -/

namespace Sys2Proof.Machine

/-- A pending snapshot ended with NO_STEP (R121). -/
def State.endSnapshot (s : State) (i : SlotId) : State :=
  if (s.record i).snapshot then
    (s.modRecord i fun r => { r with snapshot := false }).offer (.snapshotNoStep i)
  else s

/-- The slot's record made fresh (R2): presence and life state are kept, and with the record go the run's amounts
(R28) and the run context (R104). -/
def State.makeFresh (s : State) (i : SlotId) : State :=
  s.modSlot i fun x =>
    { x with
      record := .fresh x.record.life x.record.presence
      power := { x.power with amounts := none }
      run := .idle }

/-- The slot holds a run in this life state: ACTIVE or PARKING (R104). -/
def LifeState.holdsRun : LifeState → Bool
  | .active | .parking => true
  | _ => false

/-- A life-state change of the Slot Table (R5): a pending snapshot ends when the slot leaves ACTIVE (R121); the parts
tied to a life state go with it (R3); the run's amounts and the run context are dropped where the new state holds
no run (R28, R104); one SLOT event is offered. -/
def State.enter (s : State) (i : SlotId) (entered : LifeState) (cause : SlotCause) (fault : Option FaultCause := none)
    (hold : Option HoldReason := none) : State :=
  let left := (s.record i).life
  let s1 := if left = .active then s.endSnapshot i else s
  let s2 := s1.modSlot i fun x =>
    { x with
      record := { x.record with
        life := entered
        fault := fault
        hold := hold
        powerPhase := if entered.holdsRun then x.record.powerPhase else none }
      power := if entered.holdsRun then x.power else { x.power with amounts := none }
      run := if entered.holdsRun then x.run else .idle }
  s2.offer (.slot i left entered cause)

/-- A life-state change for which the record is made fresh first (R2, R9, R10, R23). -/
def State.enterFresh (s : State) (i : SlotId) (entered : LifeState) (cause : SlotCause)
    (fault : Option FaultCause := none) : State :=
  let s1 := if (s.record i).life = .active then s.endSnapshot i else s
  (s1.makeFresh i).enter i entered cause fault

end Sys2Proof.Machine
end

