-- ==== Sys2Proof/Machine/Lanes.lean ====
section
/-! DEFINITION. The Dispatch Unit's and the Handler Link Port's shared operations: lanes, the dispatch queue, pick
selection (R161), booking (R162), and the transfer record (R165, R166). -/

namespace Sys2Proof.Machine

/-- A LANE event of a lane as it now stands, with the state it left (R152). -/
def State.laneEvent (s : State) (l : LaneId) (cause : LaneCause) (left : LaneState) : State :=
  s.offer (.lane l cause left (s.lane l))

/-- A frame to the handler is formed (R199). -/
def State.sendHandler (s : State) (f : HandlerFrame) : State :=
  { s with handler := { s.handler with out := s.handler.out ++ [f] } }

/-- The transfer record changes state (R165, R166): its fields become those of the new state, its timer the one
given, the closed-seat slot becomes absent where it leaves IDLE; one TRANSFER event is offered, naming the transfer;
becoming IDLE calls for a pick selection (R160). -/
def State.moveTransfer (s : State) (entered : Transfer) (timer : Option Nat) (cause : TransferCause) : State :=
  let left := s.handler.transfer
  let named := if entered = .idle then left else entered
  let s1 : State :=
    { s with
      handler := { s.handler with
        transfer := entered
        timer := timer
        closedSeat := if left = .idle then none else s.handler.closedSeat }
      pickDue := s.pickDue || decide (entered = .idle) }
  s1.offer (.transfer named.kind named.slot named.lane left.state entered.state cause)

/-! ### The dispatch queue (8.3) -/

/-- The slot joins the dispatch queue at its tail with the bin of its grade result, not offered; a pick selection is
called for (R156). -/
def State.joinDispatch (s : State) (i : SlotId) : State :=
  let bin := ((s.record i).grade.map GradeResult.bin).getD binReject
  State.callPick
    { s with dispatch := { s.dispatch with queue := s.dispatch.queue ++ [{ slot := i, bin, offered := false }] } }

/-- The slot's entry leaves the dispatch queue; the entries behind it close up (R157). -/
def State.leaveDispatch (s : State) (i : SlotId) : State :=
  { s with dispatch := { s.dispatch with queue := s.dispatch.queue.filter fun e => e.slot != i } }

/-- The offered mark of the slot's entry takes a value; the entry stays in its place (R157, R161). -/
def State.markOffered (s : State) (i : SlotId) (v : Bool) : State :=
  { s with
    dispatch := { s.dispatch with
      queue := s.dispatch.queue.map fun e => if e.slot = i then { e with offered := v } else e } }

/-- A graded slot goes where the bin map sends its bin (R150): to DISPATCH, joining the dispatch queue, or to HELD
with the reason given. A slot with no grade result is held (log 29). -/
def State.placeByBin (s : State) (i : SlotId) (cause : SlotCause) (reason : HoldReason) : State :=
  match (s.record i).grade with
  | some g =>
    match s.destination g.bin with
    | .lane _ => (s.enter i .dispatch cause).joinDispatch i
    | .hold => s.enter i .held cause none (some reason)
  | none => s.enter i .held cause none (some reason)

/-! ### Picks (8.4) -/

/-- The lane an entry can be offered to: the one its bin maps to, where it is OPEN (R161). -/
def State.openLaneOf (s : State) (e : DispatchEntry) : Option LaneId :=
  match s.destination e.bin with
  | .lane l => if (s.lane l).state = .open then some l else none
  | .hold => none

/-- A pick may be offered (R161, conditions 1 to 5). -/
def State.mayPick (s : State) : Bool :=
  s.mode == .run && s.dispatch.enabled && s.dispatch.stall.isNone && s.handler.transfer == .idle
    && decide (s.dispatch.manifest.length < Config.manifestDepth)

/-- A pick is offered (R161, R168): the entry marked, the record OFFERED with the offer timer, the PICK formed. -/
def State.offerPick (s : State) (i : SlotId) (l : LaneId) : State :=
  let s1 := (s.markOffered i true).moveTransfer (.pick .offered i l s.now)
    (some (s.now + s.settings.offerTime * 100)) .offered
  let s2 := s1.sendHandler (.pick i l s1.handler.pickTag)
  { s2 with handler := { s2.handler with pickTag := s2.handler.pickTag + 1 } }

/-- The oldest entry that can go, with its lane (R161). -/
def State.pickChoice (s : State) : Option (SlotId × LaneId) :=
  s.dispatch.queue.findSome? fun e => (s.openLaneOf e).map fun l => (e.slot, l)

/-- A pick selection (R161): at most one pick is offered, for the oldest entry whose bin maps to an OPEN lane. -/
def State.pickSelection (s : State) : State :=
  if s.mayPick then
    match s.pickChoice with
    | some (i, l) => s.offerPick i l
    | none => s
  else s

/-! ### Booking (R162) -/

/-- The lane's count raised by a booking; an OPEN lane brought to its capacity becomes FULL, with its LANE event
(R162 step 1). -/
def State.raiseCount (s : State) (l : LaneId) : State :=
  let x := s.lane l
  let y := { x with count := x.count + 1 }
  if x.state = .open ∧ x.capacity ≤ y.count then
    (s.setLane l { y with state := .full }).laneEvent l .full x.state
  else s.setLane l y

/-- The next record number: it rises by 1 and wraps to 1 after 4,294,967,295 (R162 step 2). -/
def nextRecordNumber (n : Nat) : Nat := if 4294967295 ≤ n then 1 else n + 1

/-- The manifest record of a drive delivered from a slot to a lane, from the slot record and the lane as they now
stand (R162 step 2). -/
def State.manifestRecord (s : State) (i : SlotId) (l : LaneId) (confirmed : Bool) : ManifestRecord :=
  let r := s.record i
  let g := r.grade.getD { bin := binReject, score := 0, reason := .noGrade }
  { number := s.dispatch.nextRecord, slot := i, identity := r.identity, bin := g.bin, score := g.score,
    reason := g.reason, lane := l, toteSequence := (s.lane l).toteSequence, place := (s.lane l).count, confirmed }

/-- A booking (R162 steps 1 and 2), with MANIFEST_FULL where the record brings the manifest to 48. -/
def State.book (s : State) (i : SlotId) (l : LaneId) (confirmed : Bool) : State :=
  let s1 := s.raiseCount l
  let s2 : State :=
    { s1 with
      dispatch := { s1.dispatch with
        manifest := s1.dispatch.manifest ++ [s1.manifestRecord i l confirmed]
        nextRecord := nextRecordNumber s1.dispatch.nextRecord } }
  if s2.dispatch.manifest.length = Config.manifestDepth then s2.offer (.manifestFull Config.manifestDepth) else s2

/-- The slot leaves UNLOADING for EMPTY with a fresh record, or for FAULTED, cause SEAT, where its presence is
PRESENT (R17, R9). -/
def State.leaveUnloading (s : State) (i : SlotId) (cause : SlotCause) : State :=
  if (s.record i).presence = .present then s.enterFresh i .faulted .seatFault (some .seat)
  else s.enterFresh i .empty cause

/-- Dispatch stalls (R160, R170 steps 2 to 4): mark cleared, flag set, record IDLE. -/
def State.stallPick (s : State) (i : SlotId) (l : LaneId) (stall : StallCause) (cause : TransferCause) : State :=
  let s1 := s.markOffered i false
  let s2 : State := { s1 with dispatch := { s1.dispatch with stall := some { cause := stall, slot := i, lane := l } } }
  s2.moveTransfer .idle none cause

end Sys2Proof.Machine
end

