-- ==== Sys2Proof/Machine/BusQueue.lean ====
section
/-! DEFINITION. A slot's outbound queue: the Step Sequencer's messages handed over and removed (R81), and the flush
at power-off (R83). -/

namespace Sys2Proof.Machine

/-- What a CONTINUE stands behind decides its place (4.2): after a RAW frame a general place, else the reserved one. -/
def Continued.isRaw : Continued → Bool
  | .raw _ _ => true
  | _ => false

/-- The frame holds the reserved place (4.2). -/
def QueuedFrame.reserved : QueuedFrame → Bool
  | .message _ => true
  | .raw _ _ _ => false
  | .cont c => !c.isRaw

/-- The frame is in flight in the slot's window (R81). -/
def State.inFlight (s : State) (i : SlotId) (f : QueuedFrame) : Bool :=
  match s.slotWindow i with
  | some w => w.stage != .deciding && !w.removed && w.frame == .queued f
  | none => false

/-- The slot's open window changed by f. -/
def State.modSlotWindow (s : State) (i : SlotId) (f : Window → Window) : State :=
  match s.slotWindow i with
  | some w => s.modBus (bayOf i) fun b => { b with window := some (f w) }
  | none => s

/-- The frame in flight of the slot has left the queue: its reply will be judged for the link alone (R81). -/
def State.markRemoved (s : State) (i : SlotId) (f : QueuedFrame) : State :=
  if s.inFlight i f then s.modSlotWindow i fun w => { w with removed := true } else s

/-- A frame taken out of the slot's queue wherever it stands; the frames behind it close up (R81). -/
def State.dropFrame (s : State) (i : SlotId) (f : QueuedFrame) : State :=
  (s.markRemoved i f).modSlotBus i fun x => { x with queue := x.queue.erase f }

/-- A frame joins the tail of the slot's queue (R80). -/
def State.pushFrame (s : State) (i : SlotId) (f : QueuedFrame) : State :=
  s.modSlotBus i fun x => { x with queue := x.queue ++ [f] }

/-- The Step Sequencer hands a message over (R81): it joins in the reserved place, displacing a CONTINUE there, or
takes the position of a message still queued; it is outstanding from now (R105). -/
def State.handOver (s : State) (i : SlotId) (m : Message) : State :=
  let s1 :=
    match (s.slotBus i).queue.find? QueuedFrame.reserved with
    | none => s.pushFrame i (.message m)
    | some (.message old) =>
      (s.markRemoved i (.message old)).modSlotBus i fun x =>
        { x with queue := x.queue.map fun f => if f = QueuedFrame.message old then .message m else f }
    | some f => (s.dropFrame i f).pushFrame i (.message m)
  s1.modRun i fun r => { r with outstanding := some m }

/-- The Step Sequencer removes its outstanding message, which gives it no outcome (R81, R105). -/
def State.removeMessage (s : State) (i : SlotId) : State :=
  match (s.run i).outstanding with
  | some m => (s.dropFrame i (.message m)).modRun i fun r => { r with outstanding := none }
  | none => s

/-- A message is deferred behind the outstanding one (R105). -/
def State.defer (s : State) (i : SlotId) (m : Message) : State :=
  s.modRun i fun r => { r with deferred := some m }

/-- The slot's window ends, where one is open for it (R89). -/
def State.endSlotWindow (s : State) (i : SlotId) : State :=
  match s.slotWindow i with
  | some _ => s.modBus (bayOf i) fun b => { b with window := none }
  | none => s

/-- The events of a flushed frame (R83 step 2): a host send is answered with NO_POWER and the part owed. -/
def QueuedFrame.endEvent (i : SlotId) (e : SendEnd) : QueuedFrame → Option Event
  | .raw _ _ tag => some (.diagEnd i tag e 0)
  | .cont (.raw tag part) => some (.diagEnd i tag e part)
  | _ => none

/-- Events offered in order. -/
def State.offerAll (s : State) (l : List Event) : State := l.foldl State.offer s

/-- The Diagnostic Bus Controller's part of a power-off (R83): the window ends, the queue is flushed with NO_POWER
for host sends, the poll clock stops. -/
def State.busPowerOff (s : State) (i : SlotId) : State :=
  let s1 := s.endSlotWindow i
  let s2 := s1.offerAll ((s1.slotBus i).queue.filterMap (QueuedFrame.endEvent i .noPower))
  s2.modSlotBus i fun _ => .idle

end Sys2Proof.Machine
end

