-- ==== Sys2Proof/Machine/Power.lean ====
section
/-! DEFINITION. The Power Sequencer's shared operations: the admission queue (R30 to R34) and power-off (R36). -/

namespace Sys2Proof.Machine

/-- Level l of the admission queue (R30). -/
def State.level (s : State) (l : Fin 4) : List AdmissionEntry := s.admission[l.val]

/-- Level l of the admission queue replaced. -/
def State.setLevel (s : State) (l : Fin 4) (q : List AdmissionEntry) : State :=
  { s with admission := s.admission.set l.val q }

/-- The slot joins the admission queue at the tail of its start priority's level, with the run's surge amount, and an
admission run is called for; its power phase becomes QUEUED in the same event (R30, R31). -/
def State.joinAdmission (s : State) (i : SlotId) (kind : SpinKind) : State :=
  let p := ((s.record i).priority).getD 0
  let surge := ((s.power i).amounts.map RunAmounts.surge).getD 0
  let s1 := s.modRecord i fun r => { r with powerPhase := some .queued }
  (s1.setLevel p (s1.level p ++ [{ slot := i, priority := p, surge, kind }])).callAdmission

/-- The slot's entry removed from wherever it stands, without admission; an admission run is called for (R32). -/
def State.leaveAdmission (s : State) (i : SlotId) : State :=
  State.callAdmission { s with admission := s.admission.map fun q => q.filter fun e => e.slot != i }

/-- The head entry of the highest level that holds one, with its level (R33 step 1). -/
def State.admissionHead (s : State) : Option (Fin 4 × AdmissionEntry) :=
  [3, 2, 1, 0].findSome? fun l => (s.level l).head?.map fun e => (l, e)

/-- An entry is admitted (R34): surge amount reserved, rails on, power-on time, SPINUP, spin-up timer, capture
armed, sample counters at 0 and sampling begun; a cycling slot enters CYCLE_ON (R127). -/
def State.admitEntry (s : State) (l : Fin 4) (e : AdmissionEntry) : State :=
  (s.setLevel l (s.level l).tail).modSlot e.slot fun x =>
    { x with
      record := { x.record with
        reserved := e.surge
        powerOnAt := some s.now
        powerPhase := some .spinup
        position := match e.kind with
          | .cycle => x.record.position.map fun q => { q with phase := .cycleOn, timer := .none }
          | .initial => x.record.position }
      power := { x.power with
        rails := true
        spinup := some
          { kind := e.kind, deadline := s.now + s.settings.spinupTimeout * 1000, startLevel := x.ready,
            fallNoted := false }
        guard := none
        over12 := 0
        over5 := 0
        dark := 0
        sampleDue := some (s.now + Config.samplePeriod) } }

/-- An admission run of at most n admissions (R33). -/
def State.admissionLoop : Nat → State → State
  | 0, s => s
  | n + 1, s =>
    match s.admissionHead with
    | some (l, e) =>
      if s.reservedSum + e.surge ≤ s.settings.budget then State.admissionLoop n (s.admitEntry l e) else s
    | none => s

/-- An admission run (R33): head entries in priority order while each fits; none in SAFE (R50). The queue's length
bounds the admissions. -/
def State.admissionRun (s : State) : State :=
  match s.mode with
  | .run => s.admissionLoop ((s.admission.toList.map List.length).sum)
  | .safe => s

/-- A power-off (R36): rails off, power-off time, phase OFF, reservation released, sampling and spin-up ended, the
Diagnostic Bus Controller's part (R83), an admission run called for. The message outstanding is flushed, and no rule
calls for a deferred one any more (R105). -/
def State.powerOff (s : State) (i : SlotId) : State :=
  let s1 := s.modSlot i fun x =>
    { x with
      record := { x.record with powerOffAt := some s.now, powerPhase := some .off, reserved := 0 }
      power := { x.power with
        rails := false, spinup := none, guard := none, over12 := 0, over5 := 0, dark := 0, sampleDue := none }
      run := { x.run with outstanding := none, deferred := none } }
  (s1.busPowerOff i).callAdmission

/-- The Power Sequencer's part of a capture (R40 steps 1 to 4): the reservation drops to the running amount, SPIN
takes the larger value, phase ON, the ready guard starts, the poll clock starts (R84); the capture is disarmed and
its timer stopped (R39); an admission run is called for. -/
def State.takeSpinup (s : State) (i : SlotId) : State :=
  (s.modSlot i fun x =>
    let t := s.now - (x.record.powerOnAt.getD s.now)
    { x with
      record := { x.record with
        reserved := (x.power.amounts.map RunAmounts.running).getD x.record.reserved
        powerPhase := some .on
        metrics := { x.record.metrics with
          spin := some (max (x.record.metrics.spin.getD 0) (saturate 60000 t)) } }
      power := { x.power with spinup := none, guard := some (s.now + s.settings.readyGuard) }
      bus := { x.bus with poll := .running s.now } }).callAdmission

end Sys2Proof.Machine
end

