-- ==== Sys2Proof/Machine/Sequencer.lean ====
section
/-! DEFINITION. The Step Sequencer's shared operations (chapters 5 and 6): starting a run, beginning and ending steps,
going off in a cycle, plan end, parking, spin-down, and what message outcomes and a lost link do to a run. -/

namespace Sys2Proof.Machine

/-! ### Starting a run (R18 to R20) -/

/-- The checks of SLOT_START after its slot check, in order (R18): the first that fails decides the status. -/
def State.startCheck (s : State) (i : SlotId) (plan priority : Nat) : Except Status (PlanId × Fin 4) :=
  if hp : plan < 8 ∧ priority < 4 then
    let p : PlanId := ⟨plan, hp.1⟩
    if (s.record i).life ≠ .seated then .error .state
    else if (s.planHead p).stepCount = 0 then .error .state
    else if (s.zone (bayOf i)).state = .shutdown then .error .state
    else .ok (p, ⟨priority, hp.2⟩)
  else .error .range

/-- A run starts (R19): plan and priority written, the run's amounts copied (R28), LINK and PCYC at 0 (R137), stage
POWER_WAIT (R104), ACTIVE with an INITIAL admission entry (R31). -/
def State.startRun (s : State) (i : SlotId) (p : PlanId) (priority : Fin 4) (cause : SlotCause) : State :=
  let h := s.planHead p
  let s1 := s.modSlot i fun x =>
    { x with
      record := { x.record with
        plan := some p
        priority := some priority
        metrics := { x.record.metrics with link := some 0, pcyc := some 0 } }
      power := { x.power with amounts := some { surge := h.surge, running := h.running } }
      run := { RunContext.idle with stage := .powerWait } }
  (s1.enter i .active cause).joinAdmission i .initial

/-- Autostart is considered for a slot that has just become SEATED (R20). -/
def State.considerAutostart (s : State) (i : SlotId) : State :=
  match s.mode, s.settings.autostart with
  | .run, some p =>
    match s.startCheck i p.val Config.autostartPriority with
    | .ok (p, priority) => s.startRun i p priority .autostarted
    | .error _ => s
  | _, _ => s

/-! ### The step position -/

/-- The step position changed by f. -/
def State.modPosition (s : State) (i : SlotId) (f : StepPosition → StepPosition) : State :=
  s.modRecord i fun r => { r with position := r.position.map f }

/-- The step enters a phase with its timer (Table 5-4). -/
def State.setPhase (s : State) (i : SlotId) (phase : StepPhase) (timer : StepTimer) : State :=
  s.modPosition i fun q => { q with phase, timer }

/-- No step timer runs. -/
def State.stopTimer (s : State) (i : SlotId) : State :=
  s.modPosition i fun q => { q with timer := .none }

/-- A step timer of a number of whole seconds, started now (R104). -/
def State.seconds (s : State) (n : Nat) : StepTimer := .running (s.now + n * 1000)

/-- Step k enters BETWEEN (R107); the stage is STEPS (R104). The cycle number and count keep their last values, 0
before the first CYCLE step (R123; log 17). -/
def State.enterBetween (s : State) (i : SlotId) (k : Nat) : State :=
  s.modSlot i fun x =>
    { x with
      record := { x.record with
        position := some
          { index := k, phase := .between, timer := .none,
            cycleNumber := (x.record.position.map StepPosition.cycleNumber).getD 0,
            cycleCount := (x.record.position.map StepPosition.cycleCount).getD 0 } }
      run := { x.run with stage := .steps } }

/-! ### Going off (6.2) -/

/-- The cycle's power-off (R125): a power-off, and the off timer starts. -/
def State.cyclePowerOff (s : State) (i : SlotId) : State :=
  let s1 := s.powerOff i
  s1.setPhase i .cycleOff (s1.seconds (s1.slotStep i).offTime)

/-- CYCLE_OFF entered with the rails on (R124): rails off at once, or PARK handed over or deferred. -/
def State.goOff (s : State) (i : SlotId) : State :=
  let s1 := s.setPhase i .cycleOff .none
  if (s1.slotHead i).parkBeforeCycle && (s1.record i).link == .ok then
    match (s1.run i).outstanding with
    | none => s1.handOver i .park
    | some _ => s1.defer i .park
  else s1.cyclePowerOff i

/-! ### Beginning a step (5.4) -/

/-- The step begins its kind (R109, R113, R123); the outcome is given where it ends at once, the step phase then left as
it stands (DESIGN CHOICE, log 48). -/
def State.beginKind (s : State) (i : SlotId) : State × Option StepOutcome :=
  let e := s.slotStep i
  match e.kind with
  | .drive =>
    if (s.record i).link = .lost then (s, some (.failed .link))
    else
      let m : Message := .runTest e.testCode e.argument
      let s1 := s.setPhase i .starting .none
      match (s.run i).outstanding with
      | none => (s1.handOver i m, none)
      | some _ => (s1.defer i m, none)
  | .dwell => (s.setPhase i .running (s.seconds e.duration), none)
  | .cycle =>
    ((s.modPosition i fun q => { q with cycleNumber := 1, cycleCount := e.cycleCount }).goOff i, none)

/-- A step in BETWEEN is judged (R107): it stays in SAFE, begins, is skipped where the zone runs no profile, or waits
for its gate (R108). The outcome is given where it ends at once, the step phase then left BETWEEN (DESIGN CHOICE,
log 48). -/
def State.judgeStep (s : State) (i : SlotId) : State × Option StepOutcome :=
  let e := s.slotStep i
  match s.mode, e.gate with
  | .safe, _ => (s, none)
  | .run, .none => s.beginKind i
  | .run, g =>
    let r := s.slotReport i
    if r.state = .off ∨ r.state = .cool then (s, some .skipped)
    else if r.meets g then s.beginKind i
    else
      let timer := if e.gateWait = 0 then StepTimer.none else s.seconds (e.gateWait * 60)
      (s.setPhase i .waitGate timer, none)

/-! ### Step end and plan end (5.7) -/

/-- The running counters of a DRIVE step taken into the accumulators and cleared (R112). -/
def SlotRecord.accumulate (r : SlotRecord) : SlotRecord :=
  { r with
    metrics := { r.metrics with
      retryTotal := saturate 16777215 (r.metrics.retryTotal + r.counters.retries)
      kiloblockTotal := saturate 4294967295 (r.metrics.kiloblockTotal + r.counters.kiloblocks)
      grow := some (saturate 65535 (r.metrics.grow.getD 0 + r.counters.newDefects)) }
    counters := .zero }

/-- A step ends with an outcome (R114 steps 1 to 3): timer cancelled, counters accumulated for a DRIVE step, entry
appended, STEP event offered. The step phase is kept (DESIGN CHOICE for a step that begins and ends at once, log 48). -/
def State.closeStep (s : State) (i : SlotId) (o : StepOutcome) : State :=
  let e := s.slotStep i
  let k := s.stepIndex i
  let s1 := (s.stopTimer i).modRecord i fun r => if e.kind = .drive then r.accumulate else r
  (s1.modRecord i fun r => { r with outcomes := r.outcomes ++ [{ index := k, outcome := o }] }).offer
    (.step i k e.kind o)

/-- A begun step fails without its on-fail action (R118 step 2, R119 step 3). -/
def State.failBegun (s : State) (i : SlotId) (r : FailReason) : State :=
  if s.stepBegun i then s.closeStep i (.failed r) else s

/-- The spin-down wait of a PARKING slot has run (R15): HELD for disposition HOLD, else where the bin map sends it. -/
def State.spunDown (s : State) (i : SlotId) : State :=
  if (s.record i).disposition = some .hold then s.enter i .held .spunDown none (some .aborted)
  else s.placeByBin i .spunDown .binHold

/-- The stage becomes SPIN_DOWN (R117): the wait expires at the power-off time plus the spin-down wait in force; at
once where that instant has come, or where no power-off time is recorded. -/
def State.beginSpinDown (s : State) (i : SlotId) : State :=
  match (s.record i).powerOffAt with
  | some t =>
    let d := t + s.settings.spinDownWait * 1000
    if d ≤ s.now then (s.modRun i fun r => { r with stage := .spinDown }).spunDown i
    else s.modRun i fun r => { r with stage := .spinDown, spinDown := some d }
  | none => (s.modRun i fun r => { r with stage := .spinDown }).spunDown i

/-- Parking begins (R116), by the power phase, the link and the message outstanding. -/
def State.beginParking (s : State) (i : SlotId) : State :=
  let r := s.record i
  match r.powerPhase with
  | some .on =>
    if r.link = .ok then
      let s1 := s.modRun i fun c => { c with stage := .parkWait }
      match (s1.run i).outstanding with
      | none => s1.handOver i .park
      | some _ => s1.defer i .park
    else (s.powerOff i).beginSpinDown i
  | some .spinup => (s.powerOff i).beginSpinDown i
  | _ => s.beginSpinDown i

/-- The plan ends (R115): timers stopped, the deferred message discarded, the slot graded, PARKING, parking begun. -/
def State.planEnd (s : State) (i : SlotId) (forced : Option ForcedCause) : State :=
  let s1 := (s.stopTimer i).modRun i fun r => { r with deferred := none }
  ((s1.grade i forced).enter i .parking .planEnded).beginParking i

/-- What follows a step's end (Table 5-5): the next step's index, or the plan end with its forced cause. -/
inductive AfterStep where
  | step (k : Nat) | plan (forced : Option ForcedCause)
  deriving DecidableEq, Repr

/-- Table 5-5, for a step k of a plan of a number of steps. -/
def PlanStep.after (e : PlanStep) (o : StepOutcome) (k steps : Nat) : AfterStep :=
  let next := if k + 1 < steps then AfterStep.step (k + 1) else .plan none
  match o, e.onFail with
  | .failed _, .endPlan => .plan none
  | .failed _, .reject => .plan (some .step)
  | _, _ => next

/-- One step's end whole (R114): closed, and the plan ends or the next step enters BETWEEN and is judged; the next
step's outcome is given where it ends at once. -/
def State.endStepOnce (s : State) (i : SlotId) (o : StepOutcome) : State × Option StepOutcome :=
  let e := s.slotStep i
  let k := s.stepIndex i
  let s1 := s.closeStep i o
  match e.after o k (s1.slotHead i).stepCount with
  | .plan forced => (s1.planEnd i forced, none)
  | .step k' => (s1.enterBetween i k').judgeStep i

/-- A step's end and those of the steps after it that end at once, at most n. -/
def State.endStepLoop : Nat → SlotId → StepOutcome → State → State
  | 0, _, _, s => s
  | n + 1, i, o, s =>
    match s.endStepOnce i o with
    | (t, none) => t
    | (t, some o') => State.endStepLoop n i o' t

/-- A step ends (R114). A plan has at most sixteen steps, so sixteen ends at most follow one another. -/
def State.endStep (s : State) (i : SlotId) (o : StepOutcome) : State := State.endStepLoop 16 i o s

/-- The step goes on by what beginning or judging it gave. -/
def State.settleStep (i : SlotId) : State × Option StepOutcome → State
  | (s, none) => s
  | (s, some o) => s.endStep i o

/-- The identification is over: step 0 enters BETWEEN (R106). -/
def State.beginSteps (s : State) (i : SlotId) : State :=
  State.settleStep i ((s.enterBetween i 0).judgeStep i)

/-- A step waiting for its gate begins (R108). -/
def State.openGate (s : State) (i : SlotId) : State :=
  State.settleStep i ((s.stopTimer i).beginKind i)

/-! ### What the Power Sequencer reports (5.3, 6.3, 6.5) -/

/-- The spin-up taken (R40 step 5): the run is identified (R106), or the cycle's on time begins (R127), or the
closing spin-up passes its step (R130). -/
def State.spinupTaken (s : State) (i : SlotId) (kind : SpinKind) : State :=
  match kind with
  | .initial =>
    let s1 := s.modRun i fun r => { r with stage := .identify }
    if (s1.record i).link = .ok then s1.handOver i .identify else s1.beginSteps i
  | .cycle =>
    match (s.record i).position with
    | some q =>
      if q.cycleCount < q.cycleNumber then s.endStep i .passed
      else s.setPhase i .cycleOn (s.seconds (s.slotStep i).onTime)
    | none => s

/-- The next cycle, or the closing spin-up, enters CYCLE_OFF with the rails off (R128). -/
def State.nextCycleOff (s : State) (i : SlotId) : State :=
  s.modPosition i fun q =>
    { q with phase := .cycleOff, timer := s.seconds (s.slotStep i).offTime, cycleNumber := q.cycleNumber + 1 }

/-- The spin-up timed out, its rails already off (R42, R106, R128, R130). -/
def State.spinupFailed (s : State) (i : SlotId) (kind : SpinKind) : State :=
  match kind with
  | .initial => s.planEnd i (some .noSpin)
  | .cycle =>
    let s1 := s.modRecord i fun r =>
      { r with metrics := { r.metrics with pcyc := r.metrics.pcyc.map fun v => saturate 255 (v + 1) } }
    match (s1.record i).position with
    | some q =>
      if q.cycleCount < q.cycleNumber then (s1.closeStep i (.failed .power)).planEnd i (some .noSpin)
      else s1.nextCycleOff i
    | none => s1

/-- An overcurrent or a trip ends an ACTIVE slot's run, its rails already off (R118, R16). -/
def State.faultRun (s : State) (i : SlotId) (r : FailReason) (fault : FaultCause) (cause : SlotCause) : State :=
  let s1 := (s.failBegun i r).modRun i fun c => { c with deferred := none }
  (s1.stopTimer i).enter i .faulted cause (some fault)

/-! ### Message outcomes and link loss (5.2, 5.5, 5.7, 6.2) -/

/-- The park wait of a slot is over (R116, R124): its rails go off. -/
def State.parkEnded (s : State) (i : SlotId) : State :=
  if (s.run i).stage = .parkWait then (s.powerOff i).beginSpinDown i
  else if s.inPhase i .cycleOff && (s.record i).powerPhase == some .on then s.cyclePowerOff i
  else s

/-- The exchange of an outstanding STOP_TEST has ended: the message deferred behind it is handed over where its rule
still calls for it, or discarded where the link is LOST (R105, R109, R116, R124). -/
def State.releaseDeferred (s : State) (i : SlotId) : State :=
  let lost := (s.record i).link = .lost
  match (s.run i).deferred with
  | none => s
  | some m =>
    let s1 := s.modRun i fun r => { r with deferred := none }
    match m with
    | .park => if lost then s1.parkEnded i else s1.handOver i m
    | .runTest _ _ =>
      if s1.inPhase i .starting then
        if lost then s1.endStep i (.failed .link) else s1.handOver i m
      else s1
    | .identify | .stopTest => s1

/-- The message is no longer outstanding (R105). -/
def State.endOutstanding (s : State) (i : SlotId) : State :=
  s.modRun i fun r => { r with outstanding := none }

/-- A message of the Step Sequencer is answered; for a NAK, naked is set (R106, R109, R111, R116, R124). -/
def State.messageAnswered (s : State) (i : SlotId) (m : Message) (naked : Bool) : State :=
  let s1 := s.endOutstanding i
  match m with
  | .identify => if (s1.run i).stage = .identify then s1.beginSteps i else s1
  | .runTest _ _ =>
    if s1.inPhase i .starting then
      if naked then s1.endStep i (.failed .drive)
      else s1.setPhase i .running (s1.seconds (s1.slotStep i).timeout)
    else s1
  | .stopTest => s1.releaseDeferred i
  | .park => s1.parkEnded i

/-- The slot waits for its park: PARK outstanding or deferred with the rails on (R116, R124). -/
def State.awaitsPark (s : State) (i : SlotId) : Bool :=
  (s.run i).stage == .parkWait || (s.inPhase i .cycleOff && (s.record i).powerPhase == some .on)

/-- The slot's link has become LOST, the frame missed being already dropped; gone is the message dropped, if it was
one of the Step Sequencer's (R92 step 3, R106, R109, R111, R116, R124). -/
def State.linkLostTo (s : State) (i : SlotId) (gone : Option Message) : State :=
  let s1 := if gone.isSome then s.endOutstanding i else s
  if (s1.run i).stage = .identify then (s1.removeMessage i).beginSteps i
  else if s1.inPhase i .starting then
    let s2 := if (s1.run i).outstanding = some .stopTest then s1 else s1.removeMessage i
    (s2.modRun i fun r => { r with deferred := none }).endStep i (.failed .link)
  else if s1.driveRunning i then (s1.handOver i .stopTest).endStep i (.failed .link)
  else if s1.awaitsPark i then
    if (s1.run i).outstanding = some .stopTest then s1
    else ((s1.removeMessage i).modRun i fun r => { r with deferred := none }).parkEnded i
  else if gone = some .stopTest then s1.releaseDeferred i
  else s1

/-- A message of the Step Sequencer is dropped while the link is already LOST (R92 step 3). -/
def State.messageDropped (s : State) (i : SlotId) (m : Message) : State :=
  let s1 := s.endOutstanding i
  match m with
  | .stopTest => s1.releaseDeferred i
  | .park => s1.parkEnded i
  | .identify => if (s1.run i).stage = .identify then s1.beginSteps i else s1
  | .runTest _ _ => if s1.inPhase i .starting then s1.endStep i (.failed .link) else s1

/-! ### Abort (5.8) -/

/-- The Step Sequencer's part of an abort of an ACTIVE slot, steps 1 to 4 (R119): messages removed, STOP_TEST handed
over, the begun step failed ABORTED, the slot graded for REJECT. Step 5 is made with the life-state change. -/
def State.abortRun (s : State) (i : SlotId) (d : Disposition) : State :=
  let s1 := if (s.run i).outstanding = some .stopTest then s else s.removeMessage i
  let s2 := s1.modRun i fun r => { r with deferred := none }
  let s3 :=
    if s2.driveRunning i && (s2.run i).outstanding != some .stopTest then s2.handOver i .stopTest else s2
  let s4 := s3.failBegun i .aborted
  match d with
  | .reject => s4.grade i (some .aborted)
  | .hold => s4

end Sys2Proof.Machine
end

