-- ==== Sys2Proof/Machine/BusExchange.lean ====
section
/-! DEFINITION. The Diagnostic Bus Controller's exchanges (chapter 4): granting a window, judging a reply, what a valid
reply and a miss do, and the routing of replies. -/

namespace Sys2Proof.Machine

/-! ### Granting (R85, R86) -/

/-- The bus's window opens for the slot at a position, with the head of its queue or a poll (R86). -/
def State.openWindow (s : State) (b : BayId) (p : Position) : State :=
  let frame := match (s.slotBus (slotAt b p)).queue with
    | f :: _ => BusFrame.queued f
    | [] => .poll
  s.modBus b fun _ => { window := some { position := p, count := 1, frame, stage := .sending, removed := false }, pointer := p }

/-- The arbiter grants the next window of a bus, where none is open and a slot is due (R85). -/
def State.grantWindow (s : State) (b : BayId) : State :=
  match (s.bus b).window, s.nextDue b with
  | none, some p => s.openWindow b p
  | _, _ => s

/-! ### Judging a reply (R78, R79, R200) -/

/-- Kind codes of the replies (Table 11-11). -/
def kindIdReport : Byte := 0x41
def kindStateReport : Byte := 0x42
def kindAck : Byte := 0x43
def kindNak : Byte := 0x44
def kindRawReply : Byte := 0x45

/-- The accepted reply kinds of a Step Sequencer message (Table 4-2). -/
def Message.accepts : Message → List Byte
  | .identify => [kindIdReport, kindNak]
  | .runTest _ _ | .stopTest | .park => [kindAck, kindNak]

/-- Every reply kind (R78). -/
def replyKinds : List Byte := [kindIdReport, kindStateReport, kindAck, kindNak, kindRawReply]

/-- The accepted reply kinds of a frame in flight (Table 4-2): a CONTINUE's are those of the frame continued. -/
def BusFrame.accepts : BusFrame → List Byte
  | .poll => [kindStateReport]
  | .queued (.message m) => m.accepts
  | .queued (.raw _ _ _) => replyKinds
  | .queued (.cont (.message m)) => m.accepts
  | .queued (.cont .poll) => [kindStateReport]
  | .queued (.cont (.raw _ _)) => replyKinds

/-- The frame is the host's: a RAW frame or a CONTINUE that follows one. Its replies may hold 0 to 60 bytes (R200). -/
def BusFrame.isRaw : BusFrame → Bool
  | .queued (.raw _ _ _) | .queued (.cont (.raw _ _)) => true
  | _ => false

/-- The body length of a reply kind (Table 11-11); none for RAW_REPLY. -/
def replyLength (kind : Byte) : Option Nat :=
  if kind = kindIdReport then some 26
  else if kind = kindStateReport then some 13
  else if kind = kindAck then some 0
  else if kind = kindNak then some 1
  else none

/-- The identity in an ID_REPORT's body (Table 11-11), where its serial number is valid (R196). -/
def identityOf (body : List Byte) : Option Identity :=
  (serialOf (body.take 20)).map fun serial =>
    { serial, model := unbe ((body.drop 20).take 2), capacity := unbe ((body.drop 22).take 4) }

/-- The drive step state of a code (R200: above 3 fails). -/
def driveStateOf (b : Byte) : Option DriveState := [DriveState.idle, .running, .passed, .failed][b.toNat]?

/-- The report in a STATE_REPORT's body (Table 11-11), progress brought to at most 100 (R79). -/
def reportOf (body : List Byte) : Option StateReport :=
  match body with
  | state :: code :: progress :: rest =>
    (driveStateOf state).map fun d =>
      { state := d, testCode := code, progress := min 100 progress.toNat, temperature := unbeInt (rest.take 1),
        kiloblocks := unbe ((rest.drop 1).take 4), retries := unbe ((rest.drop 5).take 3),
        newDefects := unbe ((rest.drop 8).take 2) }
  | _ => none

/-- The body meets the layout of its kind (R79 check 6, R200). To a RAW frame or a CONTINUE that follows one any length
is allowed, and the serial number and the drive step state are judged where their bytes are there (log 24). -/
def layoutGood (raw : Bool) (kind : Byte) (body : List Byte) : Bool :=
  (raw || replyLength kind == none || replyLength kind == some body.length) &&
    (kind != kindIdReport || decide (body.length < 20) || (serialOf (body.take 20)).isSome) &&
    (kind != kindStateReport || body.isEmpty || (body.head?.bind driveStateOf).isSome)

/-- A valid reply: its kind, its continues flag and its body. -/
structure ValidReply where
  kind : Byte
  continues : Bool
  body : List Byte
  deriving DecidableEq, Repr

/-- A reply of these bytes to a frame of the slot at a position is judged (R79 checks 3 to 6): none where it is a
miss. An address byte that differs from 0x80 and the position in any bit is a miss (DESIGN CHOICE, log 49). -/
def judgeReply (p : Position) (f : BusFrame) (l : List Byte) : Option ValidReply :=
  match replyFields l with
  | some (address, kind, continues, body) =>
    if address = 0x80 ||| byte p.val ∧ f.accepts.contains kind ∧ layoutGood f.isRaw kind body then
      some { kind, continues, body }
    else none
  | none => none

/-! ### Routing (4.5) -/

/-- TEXC from a report's drive temperature and the latest zone report (R97). -/
def texcOf (old : Option Nat) (temperature setpoint : Int) : Nat :=
  max (old.getD 0) (clampInt 0 255 (temperature - setpoint / 4)).toNat

/-- The running counters take a report's values (R96 step 1). -/
def StateReport.counters (p : StateReport) : Counters :=
  { kiloblocks := p.kiloblocks, retries := p.retries, newDefects := p.newDefects, progress := p.progress,
    temperature := p.temperature }

/-- A STATE_REPORT's values and its TEXC (R96 steps 1 and 2, R97). -/
def State.takeReport (s : State) (i : SlotId) (p : StateReport) : State :=
  let s1 :=
    if s.driveRunning i && p.testCode == (s.slotStep i).testCode then
      s.modRecord i fun r => { r with counters := p.counters }
    else s
  let z := s1.slotReport i
  match (s1.record i).life, z.state.runs, z.setpoint with
  | .active, true, some w =>
    s1.modRecord i fun r => { r with metrics := { r.metrics with texc := some (texcOf r.metrics.texc p.temperature w) } }
  | _, _, _ => s1

/-- A pending snapshot is served by a report taken while a DRIVE step is RUNNING (R121). -/
def State.serveSnapshot (s : State) (i : SlotId) (p : StateReport) : State :=
  if (s.record i).snapshot && s.driveRunning i then
    (s.modRecord i fun r => { r with snapshot := false }).offer
      (.snapshot i (s.stepIndex i) (s.slotStep i).testCode p)
  else s

/-- A RUNNING DRIVE step judges a report that echoes its test code (R110). -/
def State.judgeReport (s : State) (i : SlotId) (p : StateReport) : State :=
  if s.driveRunning i && p.testCode == (s.slotStep i).testCode then
    match p.state with
    | .passed => s.endStep i .passed
    | .failed => s.endStep i (.failed .drive)
    | .idle | .running => s
  else s

/-- A reply to a poll (R96, R121, R110). -/
def State.routeReport (s : State) (i : SlotId) (p : StateReport) : State :=
  ((s.takeReport i p).serveSnapshot i p).judgeReport i p

/-- A valid reply routed by the frame it answers (R94). -/
def State.route (s : State) (i : SlotId) (f : BusFrame) (v : ValidReply) : State :=
  match f with
  | .poll =>
    match reportOf v.body with
    | some p => s.routeReport i p
    | none => s
  | .queued (.message m) =>
    let s1 :=
      if m = .identify ∧ v.kind = kindIdReport then
        match identityOf v.body with
        | some d => s.modRecord i fun r => { r with identity := some d }
        | none => s
      else s
    s1.messageAnswered i m (v.kind == kindNak)
  | .queued (.raw _ _ tag) => s.offer (.diagReply i tag 0 v.kind v.continues v.body)
  | .queued (.cont (.raw tag part)) => s.offer (.diagReply i tag part v.kind v.continues v.body)
  | .queued (.cont _) => s

/-! ### A valid reply (R87, R88) -/

/-- The link accounting of a valid reply (R87 steps 1 and 2, R93). -/
def State.linkHeard (s : State) (i : SlotId) : State :=
  let lost := (s.record i).link == .lost
  let s1 := s.modSlot i fun x =>
    { x with
      record := { x.record with link := .ok, misses := 0 }
      bus := { x.bus with poll := if x.record.powerPhase = some .on then .running s.now else x.bus.poll } }
  if lost then s1.offer (.linkOk i) else s1

/-- What a CONTINUE after a frame continues (R87 step 4, R98: the part it asks for saturates at 255). -/
def BusFrame.continued : BusFrame → Continued
  | .poll => .poll
  | .queued (.message m) => .message m
  | .queued (.raw _ _ tag) => .raw tag 1
  | .queued (.cont (.raw tag part)) => .raw tag (saturate 255 (part + 1))
  | .queued (.cont c) => c

/-- The frame answered leaves the head of the queue (R87 step 3). -/
def State.dequeue (s : State) (i : SlotId) (f : BusFrame) : State :=
  match f with
  | .poll => s
  | .queued _ => s.modSlotBus i fun x => { x with queue := x.queue.tail }

/-- A CONTINUE takes the front of the queue (R87 step 4), unless it follows a poll and the reserved place is taken. -/
def State.queueContinue (s : State) (i : SlotId) (f : BusFrame) : State :=
  if f = .poll && (s.slotBus i).queue.any QueuedFrame.reserved then s
  else s.modSlotBus i fun x => { x with queue := .cont f.continued :: x.queue }

/-- The window goes on with the CONTINUE at the front of the queue, or ends (R87, R88). Where the CONTINUE queued at
step 4 of R87 has been displaced by a message handed over at step 5, the window ends (DESIGN CHOICE, log 47). -/
def State.continueWindow (s : State) (b : BayId) (w : Window) : State :=
  let c := QueuedFrame.cont w.frame.continued
  if (s.slotBus (slotAt b w.position)).queue.head? = some c
      ∧ (s.otherDue b w.position = false ∨ w.count < s.settings.quantum) then
    s.modBus b fun x =>
      { x with window := some { w with count := w.count + 1, frame := .queued c, stage := .sending, removed := false } }
  else s.modBus b fun x => { x with window := none }

/-- A valid reply to the frame in flight of a window (R87, R88, R81). -/
def State.replyTaken (s : State) (b : BayId) (w : Window) (v : ValidReply) : State :=
  let i := slotAt b w.position
  let s1 := (s.modBus b fun x => { x with window := some { w with stage := .deciding } }).linkHeard i
  if w.removed then s1.modBus b fun x => { x with window := none }
  else
    let s2 := s1.dequeue i w.frame
    let s3 := if v.continues then s2.queueContinue i w.frame else s2
    let s4 := s3.route i w.frame v
    match (s4.bus b).window with
    | none => s4
    | some _ => if v.continues then s4.continueWindow b w else s4.modBus b fun x => { x with window := none }

/-! ### A miss (R90 to R92) -/

/-- The counter and LINK at a miss (R90 steps 1 and 2). -/
def State.countMiss (s : State) (i : SlotId) : State :=
  s.modRecord i fun r =>
    { r with
      misses := saturate 8 (r.misses + 1)
      metrics := { r.metrics with
        link := if r.life = .active then r.metrics.link.map fun v => saturate 255 (v + 1) else r.metrics.link } }

/-- The Step Sequencer's message in a frame, if the frame is one. -/
def QueuedFrame.message? : QueuedFrame → Option Message
  | .message m => some m
  | _ => none

/-- The frame a miss drops from the head of the queue while the link is LOST (R92): not a poll's, not a removed one. -/
def Window.dropped (w : Window) : Option QueuedFrame :=
  match w.frame with
  | .queued f => if w.removed then none else some f
  | .poll => none

/-- A miss on a window (R90, R91, R92). -/
def State.miss (s : State) (b : BayId) (w : Window) : State :=
  let i := slotAt b w.position
  let s1 := (s.countMiss i).modBus b fun x => { x with window := none }
  let wasLost := (s1.record i).link == .lost
  let becomes := !wasLost && decide (s1.settings.retryLimit + 1 ≤ (s1.record i).misses)
  if wasLost || becomes then
    let gone := w.dropped
    let s2 := s1.modSlot i fun x =>
      { x with
        record := { x.record with link := .lost }
        bus := { x.bus with queue := if gone.isSome then x.bus.queue.tail else x.bus.queue } }
    let s3 := if becomes then s2.offer (.linkLost i (s2.record i).metrics.link) else s2
    let s4 := s3.offerAll (gone.bind (QueuedFrame.endEvent i .lost)).toList
    let m := gone.bind QueuedFrame.message?
    if becomes then s4.linkLostTo i m
    else match m with
      | some m => s4.messageDropped i m
      | none => s4
  else s1

end Sys2Proof.Machine
end

