-- ==== Sys2Proof/WellFormed.lean ====
section
/-! DEFINITION. Which commands can reach the part: bytes and characters arrive one or more at a time, and a sensor
answers no more than the top of its scale. The meanings are total: an ill-formed command runs too. -/

namespace Sys2Proof

/-- The top of a sensor's scale, in q raw (chapter 3.2). -/
def sensorTop : Int := 511

/-- A sensor answers at most the top of its scale, or not at all (R54). -/
def SensorRead.wf : SensorRead → Bool
  | none => true
  | some raw => decide (raw ≤ sensorTop)

/-- Both sensors' answers are in scale. -/
def ZoneReads.wf (r : ZoneReads) : Bool :=
  SensorRead.wf r.sensor0 && SensorRead.wf r.sensor1

/-- The command can reach the part. -/
def Instr.wellFormed : Instr → Bool
  | .powerOnReset reads => reads.toList.all ZoneReads.wf
  | .warmReset _ reads => reads.toList.all ZoneReads.wf
  | .cellFrameReceived bytes => !bytes.isEmpty
  | .controlPeriod _ reads => reads.wf
  | .holdExpiry _ reads => reads.wf
  | .driveReplyReceived _ chars => !chars.isEmpty
  | .handlerFrameMalformed bytes => !bytes.isEmpty
  | .replyBrokenByMarkByte _ chars => !chars.isEmpty
  | .frameGapTimeout _ | .outboundFrameSent | .unknownRequest | .ping | .shelfStatus | .shelfConfig
  | .tableWrite | .tableRead | .eventConfig | .silenceConfig | .shelfStop | .shelfResume | .restart
  | .silenceExpired | .slotStart | .slotAbort | .slotRestart | .slotQuery | .slotSnapshot | .diagSend
  | .zoneStart | .zoneStop | .zoneClear | .dispatchEnable | .dispatchWithdraw | .laneOpen | .laneClose
  | .manifestTake | .handlerResume | .transferConfirm | .rawSwitchChange _ _ | .presenceTaken _
  | .readyLineChange _ _ | .spinupTimeout _ | .readyGuardExpiry _ | .currentSample _ _ _ | .windowGrant _
  | .driveFrameSent _ | .replyWaitExpiry _ | .replyGapTimeout _ | .pollClockExpiry _ | .gateWaitExpiry _
  | .driveTimeout _ | .dwellExpiry _ | .cycleOffExpiry _ | .cycleOnExpiry _ | .spinDownExpiry _
  | .seatRequest _ _ | .seatDone _ _ | .handlerTaken _ _ | .handlerRefused _ _ _ | .handlerDone _ _
  | .handlerFailed _ _ _ | .toteIn _ _ | .toteOut _ _ | .offerTimeout | .carryTimeout | .seatDoneWaitExpiry
  | .handlerFrameSent => true

end Sys2Proof
end

