-- ==== Sys2Proof/Machine/Thermal.lean ====
section
/-! DEFINITION. The Thermal Zone Controller's shared operations (chapter 3): segments and boundaries, sensors, duties,
the zone report, the trip of a bay, and the control period. -/

namespace Sys2Proof.Machine

/-! ### Profiles and positions (3.3, 3.4) -/

/-- Segment k of a profile (R58). -/
def Profile.segment (f : Profile) (k : Nat) : Segment := (f.segments[k]?).getD .reset

/-- The control periods a hold of some minutes spans after the one in which HOLD is entered (R64): 60 a minute, and
one for a hold of 0. -/
def holdPeriods (minutes : Nat) : Nat := max 1 (60 * minutes)

/-- A segment is entered (R63): HOLD at once where the accumulator is at the target or the rate is 0, else RAMP. -/
def Zone.enterSegment (x : Zone) (k loop : Nat) (acc : Int) : Zone :=
  let g := x.active.segment k
  let t := 60 * g.target
  if acc = t ∨ g.rate = 0 then
    { x with state := .hold, position := some { segment := k, loop, acc := t, holdLeft := holdPeriods g.hold } }
  else { x with state := .ramp, position := some { segment := k, loop, acc, holdLeft := 0 } }

/-- The position is discarded; a staged profile becomes active (R61). -/
def Zone.discard (x : Zone) : Zone :=
  { x with position := none, active := x.staged.getD x.active, staged := none }

/-- A segment boundary (R64), with its cause: a staged profile swapped in (R61), the next segment, another loop, or the
end of the profile. -/
def Zone.boundary (x : Zone) (p : ZonePosition) : Zone × Option ZoneCause :=
  match x.staged with
  | some f =>
    let y := { x with active := f, staged := none }
    if f.segmentCount = 0 then ({ y with state := .cool, position := none }, some .swapped)
    else (y.enterSegment 0 1 p.acc, some .swapped)
  | none =>
    if p.segment + 1 < x.active.segmentCount then
      (x.enterSegment (p.segment + 1) p.loop p.acc, some .nextSegment)
    else if x.active.loopCount = 0 ∨ p.loop < x.active.loopCount then
      (x.enterSegment 0 (saturate 255 (p.loop + 1)) p.acc, some .looped)
    else ({ x with state := .cool, position := none }, some .profileDone)

/-- A ramp step (R63): r units toward the target, and never past it. -/
def rampStep (acc target : Int) (r : Nat) : Int :=
  if acc < target then min target (acc + r) else max target (acc - r)

/-- One period's advance of a profile in RUN (R63, R64), with the cause of the ZONE event it makes, if any. -/
def Zone.advance (x : Zone) : Zone × Option ZoneCause :=
  match x.state, x.position with
  | .ramp, some p =>
    let g := x.active.segment p.segment
    let acc := rampStep p.acc (60 * g.target) g.rate
    if acc = 60 * g.target then
      ({ x with state := .hold, position := some { p with acc, holdLeft := holdPeriods g.hold } },
        some .setpointReached)
    else ({ x with position := some { p with acc } }, none)
  | .hold, some p =>
    if p.holdLeft ≤ 1 then x.boundary p
    else ({ x with position := some { p with holdLeft := p.holdLeft - 1 } }, none)
  | _, _ => (x, none)

/-! ### Zone events, duties and reports -/

/-- A ZONE event of a zone as it now stands, with the state it left (R52). -/
def State.zoneEvent (s : State) (z : BayId) (left : ZoneState) (cause : ZoneCause)
    (sensor : Option (Fin 2) := none) : State :=
  let x := s.zone z
  s.offer (.zone z left x.state cause x.temperature (x.position.map fun p => (p.segment, p.loop)) sensor)

/-- A zone changes by f, and its ZONE event is offered (R52). -/
def State.changeZone (s : State) (z : BayId) (f : Zone → Zone) (cause : ZoneCause) : State :=
  (s.modZone z f).zoneEvent z (s.zone z).state cause

/-- The zone's duties are set (R68, R69). -/
def State.setDuties (s : State) (z : BayId) : State :=
  s.modZone z fun x => { x with heater := (x.duties s.mode).1, fan := (x.duties s.mode).2 }

/-- A slot's step waiting for its gate begins where the latest report meets the gate (R108). -/
def State.judgeGate (s : State) (i : SlotId) : State :=
  if s.inPhase i .waitGate && (s.slotReport i).meets (s.slotStep i).gate then s.openGate i else s

/-- The zone publishes its report (R74); in RUN the gates of the bay's slots are judged against it (R108), in
ascending slot order (DESIGN CHOICE, log 53). -/
def State.publish (s : State) (z : BayId) : State :=
  let s1 := s.modZone z fun x => { x with report := x.formReport }
  match s1.mode with
  | .run => s1.forSlots (baySlots z) fun i t => t.judgeGate i
  | .safe => s1

/-- What follows every change of zone state, and ends every control period: the duties and the report (R69, R74). -/
def State.settleZone (s : State) (z : BayId) : State := (s.setDuties z).publish z

/-- A zone changes its state by f, within a control period or between two: its ZONE event, then its duties and its report
(R52, R69, R74). Within a period the report has the temperature just read (DESIGN CHOICE, log 21). -/
def State.moveZone (s : State) (z : BayId) (f : Zone → Zone) (cause : ZoneCause) : State :=
  (s.changeZone z f cause).settleZone z

/-! ### Sensors (3.2) -/

/-- A sensor's reading (R54): absent where it does not answer, 500 q at the top of scale, else raw plus offset brought
into -160 to 500 q. -/
def sensorReading (offset : Int) : SensorRead → Option Int
  | none => none
  | some raw => some (if sensorTop ≤ raw then 500 else clampInt (-160) 500 (raw + offset))

/-- The larger of the valid readings (R55). -/
def zoneTemperature : Option Int → Option Int → Option Int
  | some a, some b => some (max a b)
  | some a, none => some a
  | none, b => b

/-- A read is over scale (R54). -/
def overScale : SensorRead → Bool
  | some raw => decide (sensorTop ≤ raw)
  | none => false

/-- The zone's readings and temperature of a period (R54, R55). -/
def Zone.read (x : Zone) (r : ZoneReads) : Zone :=
  let a := sensorReading x.param.offset0 r.sensor0
  let b := sensorReading x.param.offset1 r.sensor1
  { x with reading0 := a, reading1 := b, temperature := zoneTemperature a b }

/-- A zone with no valid sensor enters SENSOR_FAULT from OFF, RAMP, HOLD or COOL (R56). -/
def State.sensorLost (s : State) (z : BayId) : State :=
  match (s.zone z).state with
  | .off | .ramp | .hold | .cool => s.moveZone z (fun x => { x with state := .sensorFault, left := x.state }) .sensorLost
  | .sensorFault | .shutdown => s

/-- A zone with a valid sensor leaves SENSOR_FAULT for the state it left (R57). -/
def State.sensorBack (s : State) (z : BayId) : State :=
  match (s.zone z).state with
  | .sensorFault => s.moveZone z (fun x => { x with state := x.left }) .sensorBack
  | _ => s

/-- Exactly one sensor is valid; the other is the one named (R55). -/
def State.sensorDegraded (s : State) (z : BayId) (invalid : Fin 2) : State :=
  if (s.zone z).degraded then s
  else
    (s.modZone z fun x => { x with degraded := true }).zoneEvent z (s.zone z).state .sensorDegraded (some invalid)

/-- Step 1 of a control period (R54 to R57). Where a zone leaves SENSOR_FAULT with exactly one valid sensor and its mark
clear, SENSOR_BACK is offered, and the report it calls for published, before SENSOR_DEGRADED (DESIGN CHOICE, log 46). -/
def State.readSensors (s : State) (z : BayId) (r : ZoneReads) : State :=
  let s1 := s.modZone z fun x => x.read r
  match r.sensor0, r.sensor1 with
  | none, none => s1.sensorLost z
  | some _, some _ => (s1.sensorBack z).modZone z fun x => { x with degraded := false }
  | some _, none => (s1.sensorBack z).sensorDegraded z 1
  | none, some _ => (s1.sensorBack z).sensorDegraded z 0

/-! ### The trip of a bay (3.6) -/

/-- What a bay's trip does to one of its slots (R72 Table 3-6, R38, R118). -/
def State.tripSlot (s : State) (i : SlotId) : State :=
  match (s.record i).life, (s.record i).powerPhase with
  | .active, some .spinup | .active, some .on => (s.powerOff i).faultRun i .thermal .thermal .thermalFault
  | .active, some .queued => (s.leaveAdmission i).faultRun i .thermal .thermal .thermalFault
  | .active, _ => s.faultRun i .thermal .thermal .thermalFault
  | .parking, some .on =>
    let s1 := s.powerOff i
    if (s1.run i).stage = .parkWait then s1.beginSpinDown i else s1
  | _, _ => s

/-- The zone trips (R71): SHUTDOWN, position discarded, duties 0 and 255, its ZONE event, the bay's slots in ascending
order with an admission run called for after them (R72), and its report. -/
def State.trip (s : State) (z : BayId) : State :=
  let s1 := s.changeZone z (fun x => { x.discard with state := .shutdown, heater := 0, fan := 255 }) .trip
  (s1.forSlots (baySlots z) fun i t => t.tripSlot i).callAdmission.publish z

/-- Step 2 of a control period (R71): a temperature above the critical limit or an over-scale reading trips the zone,
except in SHUTDOWN. -/
def State.checkCritical (s : State) (z : BayId) (r : ZoneReads) : State :=
  let x := s.zone z
  match x.temperature with
  | some t =>
    if x.state ≠ .shutdown ∧ ((x.param.criticalLimit : Int) < t ∨ overScale r.sensor0 ∨ overScale r.sensor1) then
      s.trip z
    else s
  | none => s

/-! ### The control period (R53) -/

/-- Step 3 of a control period: in RUN a zone in RAMP or HOLD advances (R63, R64); in COOL, in either mode, a
temperature below cool-done ends the cooling (R66). -/
def State.advanceZone (s : State) (z : BayId) : State :=
  let x := s.zone z
  match x.state with
  | .ramp | .hold =>
    match s.mode, x.advance with
    | .run, (y, some cause) => s.moveZone z (fun _ => y) cause
    | .run, (y, none) => s.modZone z fun _ => y
    | .safe, _ => s
  | .cool =>
    match x.temperature with
    | some t =>
      if t < (x.param.coolDone : Int) then s.moveZone z (fun x => { x with state := .off }) .cooled else s
    | none => s
  | .off | .sensorFault | .shutdown => s

/-- A control period of a zone, its six steps in order (R53): a change of state made in steps 1 to 3 has its own duties
and report at once (R69, R74), and steps 4 to 6 form those of the period. -/
def State.controlPeriod (s : State) (z : BayId) (r : ZoneReads) : State :=
  let s1 := s.readSensors z r
  let s2 := s1.checkCritical z r
  let s3 := s2.advanceZone z
  s3.settleZone z

/-- A zone begins a control period: its ZONE_PARAM entry comes into force (R54, R68, R70), and the next period is due
at the instant given (R53). -/
def Zone.beginPeriod (x : Zone) (due : Nat) : Zone := { x with param := x.entry, periodDue := due }

/-- The control period of a zone made now, and the next one due a second later (R53): a period taken after the instant it
was due at moves the later ones with it (DESIGN CHOICE, log 55). -/
def State.periodNow (s : State) (z : BayId) (r : ZoneReads) : State :=
  (s.modZone z fun x => x.beginPeriod (s.now + Config.controlPeriod)).controlPeriod z r

end Sys2Proof.Machine
end

