-- ==== Sys2Proof/Machine/Settle.lean ====
section
/-! DEFINITION. What ends every command: the admission run and the pick selection it has called for, and the frames
that the two lines can then begin (R184, R199). And how a request is taken and answered (R182, R183). -/

namespace Sys2Proof.Machine

/-! ### The lines -/

/-- The Cell Link's line begins its next frame where it is free (R184): the refusal list, the reply of the request last
taken, the event queue, in that order. Nothing is sent behind the reply of RESTART until the reset (R195). -/
def State.pumpCell (s : State) : State :=
  match s.cell.line, s.cell.restart, s.cell.refusals, s.cell.reply with
  | some _, _, _, _ => s
  | none, .due, _, _ => s
  | none, _, (kind, tag) :: rest, _ =>
    { s with cell := { s.cell with refusals := rest, line := some (.refusal kind tag) } }
  | none, _, [], some r => { s with cell := { s.cell with reply := none, line := some (.reply r) } }
  | none, .called, [], none => s
  | none, .none, [], none =>
    match s.events.queue with
    | (n, e) :: rest =>
      { s with cell := { s.cell with line := some (.event n e) }, events := { s.events with queue := rest } }
    | [] => s

/-- The Handler Link's line begins the oldest frame formed where it is free (R199). -/
def State.pumpHandler (s : State) : State :=
  match s.handler.line, s.handler.out with
  | none, f :: rest => { s with handler := { s.handler with out := rest, line := some f } }
  | _, _ => s

/-! ### The end of a command -/

/-- The admission run the command has called for (R33). -/
def State.settleAdmission (s : State) : State :=
  if s.admissionDue then State.admissionRun { s with admissionDue := false } else s

/-- The pick selection the command has called for (R160). -/
def State.settlePick (s : State) : State :=
  if s.pickDue then State.pickSelection { s with pickDue := false } else s

/-- The end of a command: the runs it has called for, then the lines (log 5, log 8). -/
def State.finish (s : State) : State :=
  s.settleAdmission.settlePick.pumpCell.pumpHandler

/-! ### Requests (R182, R183) -/

/-- What a request does: the state after its effects, and its reply's status, ADJUSTED mark and body. -/
structure Answer where
  state : State
  status : Status
  adjusted : Bool
  body : List Byte

/-- A request refused with a status changes no state; its reply carries no body and no ADJUSTED (R183). -/
def State.refuse (s : State) (status : Status) : Answer := { state := s, status, adjusted := false, body := [] }

/-- A request answered OK. -/
def State.accept (s : State) (body : List Byte := []) (adjusted : Bool := false) : Answer :=
  { state := s, status := .ok, adjusted, body }

/-- A frame is the reply of a request taken. -/
def OutFrame.isReply : OutFrame → Bool
  | .reply _ => true
  | _ => false

/-- The port can take a request (R182): the reply to the one before has been sent in full, and no warm reset is called
for (R195). -/
def State.portReady (s : State) : Bool :=
  s.cell.reply.isNone && !(s.cell.line.any OutFrame.isReply) && s.cell.restart == .none

/-- A request's reply is formed from its answer (R183). -/
def Answer.reply (a : Answer) (q : Request) : State :=
  let r : Reply := { kind := q.kind, tag := q.tag, status := a.status, adjusted := a.adjusted, body := a.body }
  { a.state with cell := { a.state.cell with reply := some r } }

/-- The request at the head of the input queue is taken where the port is ready and its kind is one this command takes
(R182): it leaves the queue, is answered MALFORMED where its body's length does not fit, and else acts. The reply is
formed, and the command ends. Elsewhere the command has no effect (log 3, log 4). -/
def State.takeRequest (s : State) (takes : Byte → Bool) (fits : List Byte → Bool) (act : State → Request → Answer) :
    State :=
  match s.portReady, s.cell.input with
  | true, q :: rest =>
    if takes q.kind then
      let s1 : State := { s with cell := { s.cell with input := rest } }
      ((if fits q.body then act s1 q else s1.refuse .malformed).reply q).finish
    else s
  | _, _ => s

/-- The body holds exactly n bytes (R198). -/
def exactly (n : Nat) (body : List Byte) : Bool := body.length == n

/-- A request that names one slot in its first byte: RANGE above 23, else it acts on the slot. -/
def State.withSlot (s : State) (b : Byte) (act : SlotId → Answer) : Answer :=
  if h : b.toNat < 24 then act ⟨b.toNat, h⟩ else s.refuse .range

/-- A request that names one zone: RANGE above 3. -/
def State.withZone (s : State) (b : Byte) (act : BayId → Answer) : Answer :=
  if h : b.toNat < 4 then act ⟨b.toNat, h⟩ else s.refuse .range

/-- A request that names one lane: RANGE above 5. -/
def State.withLane (s : State) (b : Byte) (act : LaneId → Answer) : Answer :=
  if h : b.toNat < 6 then act ⟨b.toNat, h⟩ else s.refuse .range

/-- Byte k of a body whose length has been checked; 0 beyond its end. -/
def field (body : List Byte) (k : Nat) : Byte := (body[k]?).getD 0

end Sys2Proof.Machine
end

