-- ==== Sys2Proof/Machine/BusEvents.lean ====
section
/-! DEFINITION. The events of the diagnostic buses (R79, R84 to R92, R200): WINDOW_GRANT, DRIVE_FRAME_SENT,
DRIVE_REPLY_RECEIVED, REPLY_WAIT_EXPIRY, REPLY_GAP_TIMEOUT, POLL_CLOCK_EXPIRY, REPLY_BROKEN_BY_MARK_BYTE. -/

namespace Sys2Proof.Machine

/-- WINDOW_GRANT: the arbiter of a bus grants the next window (R85). -/
def execWindowGrant (b : BayId) (s : State) : Host.Outcome State Fault Refusal :=
  .next (s.grantWindow b)

/-- The window's stage changed. -/
def State.setStage (s : State) (b : BayId) (w : Window) (stage : WindowStage) : State :=
  s.modBus b fun x => { x with window := some { w with stage } }

/-- DRIVE_FRAME_SENT: the last byte of the frame in flight is sent, and the reply wait in force starts (R79). -/
def execDriveFrameSent (b : BayId) (s : State) : Host.Outcome State Fault Refusal :=
  match (s.bus b).window with
  | some w =>
    match w.stage with
    | .sending => .next (s.setStage b w (.awaiting (s.now + s.settings.replyWait) s.settings.replyWait [] s.now))
    | .awaiting .. | .deciding => .next s
  | none => .next s

/-- A complete reply judged (R79): a valid one is taken by R87, any other is a miss by R90. -/
def State.replyComplete (s : State) (b : BayId) (w : Window) (bytes : List Byte) : State :=
  match judgeReply w.position w.frame bytes with
  | some v => s.replyTaken b w v
  | none => s.miss b w

/-- The exchange can no longer give a valid reply at an instant (R79 checks 1 and 2): the reply wait ran out before it
with no reply begun, or the gap behind the last byte exceeds the reply wait. -/
def WindowStage.lapsed (now : Nat) : WindowStage → Bool
  | .awaiting deadline _ [] _ => decide (deadline < now)
  | .awaiting _ wait (_ :: _) lastAt => decide (lastAt + wait < now)
  | .sending | .deciding => false

/-- DRIVE_REPLY_RECEIVED: characters arrive while the frame awaits its reply (R79, R200): a miss where they come too
late; else they complete the reply, or are kept towards it (log 14). -/
def execDriveReplyReceived (b : BayId) (chars : List BusChar) (s : State) : Host.Outcome State Fault Refusal :=
  match (s.bus b).window, chars with
  | none, _ | _, [] => .next s
  | some w, _ :: _ =>
    match w.stage with
    | .awaiting deadline wait got _ =>
      if w.stage.lapsed s.now then .next (s.miss b w).finish
      else
        match assemble got chars with
        | .complete bytes => .next (s.replyComplete b w bytes).finish
        | .partialReply bytes => .next (s.setStage b w (.awaiting deadline wait bytes s.now))
        | .broken => .next s
    | .sending | .deciding => .next s

/-- REPLY_WAIT_EXPIRY: the reply wait runs out with no reply begun, a miss (R79, R90). -/
def execReplyWaitExpiry (b : BayId) (s : State) : Host.Outcome State Fault Refusal :=
  match (s.bus b).window with
  | some w =>
    match w.stage with
    | .awaiting deadline _ [] _ => .next ((s.reach deadline).miss b w).finish
    | .awaiting .. | .sending | .deciding => .next s
  | none => .next s

/-- REPLY_GAP_TIMEOUT: a gap inside a reply exceeds the reply wait, a miss (R79, R90). It acts at the instant at which the
gap has lasted for the reply wait (DESIGN CHOICE, log 57). -/
def execReplyGapTimeout (b : BayId) (s : State) : Host.Outcome State Fault Refusal :=
  match (s.bus b).window with
  | some w =>
    match w.stage with
    | .awaiting _ wait (_ :: _) lastAt => .next ((s.reach (lastAt + wait)).miss b w).finish
    | .awaiting .. | .sending | .deciding => .next s
  | none => .next s

/-- POLL_CLOCK_EXPIRY: the poll clock of a slot has run for the poll interval (R84). -/
def execPollClockExpiry (i : SlotId) (s : State) : Host.Outcome State Fault Refusal :=
  match (s.slotBus i).poll with
  | .running since =>
    .next ((s.reach (since + s.settings.pollInterval * 100)).modSlotBus i fun x => { x with poll := .run })
  | .stopped | .run => .next s

/-- REPLY_BROKEN_BY_MARK_BYTE: a byte with the mark set arrives inside the reply, a miss at that byte (R200). -/
def execReplyBrokenByMarkByte (b : BayId) (chars : List BusChar) (s : State) : Host.Outcome State Fault Refusal :=
  match (s.bus b).window with
  | some w =>
    match w.stage with
    | .awaiting _ _ got _ =>
      match assemble got chars with
      | .broken => .next (s.miss b w).finish
      | .complete _ | .partialReply _ => .next s
    | .sending | .deciding => .next s
  | none => .next s

end Sys2Proof.Machine
end

