-- ==== Sys2Proof/Machine/Records.lean ====
section
/-! DEFINITION. The records the part sends in replies (11.4, 11.7): SLOT_QUERY, MANIFEST_TAKE, SHELF_STATUS. -/

namespace Sys2Proof.Machine

/-- ms since an instant, saturating at 4 bytes (Tables 11-7, 11-12); 0 where the instant is absent. -/
def elapsed (now : Nat) : Option Nat → Nat
  | some t => saturate 4294967295 (now - t)
  | none => 0

/-- Whole seconds left on a step timer (R24), a part of a second counting as one (log 16). A gate timer frozen in
SAFE gives the time it has left (DESIGN CHOICE, log 50). -/
def StepTimer.secondsLeft (now : Nat) : StepTimer → Nat
  | .none => 0
  | .running d => (d - now + 999) / 1000
  | .frozen left => (left + 999) / 1000

/-- One entry of the outcome list (Table 11-7). -/
def OutcomeEntry.bytes (e : OutcomeEntry) : List Byte := [byte e.index, e.outcome.code, e.outcome.reasonCode]

/-- The presence mask of a slot record, bit 0 first (11.4). -/
def SlotRecord.presenceBits (r : SlotRecord) : List Bool :=
  [r.plan.isSome, r.disposition.isSome, r.powerPhase.isSome, r.powerOnAt.isSome, r.powerOffAt.isSome,
    r.position.isSome, r.identity.isSome, r.metrics.spin.isSome, r.metrics.grow.isSome, r.metrics.rrate.isSome,
    r.metrics.texc.isSome, r.metrics.link.isSome, r.metrics.pcyc.isSome, r.grade.isSome, r.fault.isSome, r.hold.isSome]

/-- The step position's bytes 18 to 27, 0 where it is absent (Table 11-7). -/
def positionBytes (now : Nat) : Option StepPosition → List Byte
  | some q =>
    [byte q.index, byte q.phase.ctorIdx] ++ be 4 (q.timer.secondsLeft now) ++ be 2 q.cycleNumber ++ be 2 q.cycleCount
  | none => List.replicate 10 0

/-- The identity's bytes (Tables 11-7, 11-8), 0 where it is absent. -/
def identityBytes : Option Identity → List Byte
  | some d => serialBytes d.serial ++ be 2 d.model
  | none => List.replicate 22 0

/-- The grade result's bytes 83 to 87 (Table 11-7), 0 where it is absent. -/
def gradeBytes : Option GradeResult → List Byte
  | some g => byte g.bin.val :: be 2 g.score ++ [g.reason.code, g.reason.detail]
  | none => List.replicate 5 0

/-- The SLOT_QUERY reply body (R24, Table 11-7). -/
def slotQueryBody (now : Nat) (i : SlotId) (r : SlotRecord) : List Byte :=
  [byte i.val, byte r.life.ctorIdx, byte r.presence.ctorIdx] ++ be 2 (flagBits r.presenceBits)
  ++ [byte ((r.plan.map Fin.val).getD 0), byte ((r.priority.map Fin.val).getD 0),
      byte ((r.disposition.map Disposition.ctorIdx).getD 0), byte ((r.powerPhase.map PowerPhase.ctorIdx).getD 0),
      byte r.reserved]
  ++ be 4 (elapsed now r.powerOnAt) ++ be 4 (elapsed now r.powerOffAt) ++ positionBytes now r.position
  ++ identityBytes r.identity ++ beOption 4 (r.identity.map Identity.capacity)
  ++ [byte r.link.ctorIdx, byte r.misses]
  ++ be 4 r.counters.kiloblocks ++ be 3 r.counters.retries ++ be 2 r.counters.newDefects
  ++ [byte r.counters.progress] ++ beInt 1 r.counters.temperature
  ++ beOption 2 r.metrics.spin ++ beOption 2 r.metrics.grow ++ beOption 2 r.metrics.rrate
  ++ beOption 1 r.metrics.texc ++ beOption 1 r.metrics.link ++ beOption 1 r.metrics.pcyc
  ++ be 3 r.metrics.retryTotal ++ be 4 r.metrics.kiloblockTotal
  ++ gradeBytes r.grade
  ++ [byte ((r.fault.map FaultCause.ctorIdx).getD 0), byte ((r.hold.map HoldReason.ctorIdx).getD 0),
      flagByte r.snapshot, byte r.outcomes.length]
  ++ r.outcomes.flatMap OutcomeEntry.bytes

/-- A manifest record (Table 11-8). -/
def ManifestRecord.bytes (m : ManifestRecord) : List Byte :=
  be 4 m.number ++ [byte m.slot.val, byte (flagBits [m.identity.isSome, m.confirmed])] ++ identityBytes m.identity
  ++ [byte m.bin.val] ++ be 2 m.score ++ [m.reason.code, m.reason.detail, byte m.lane.val] ++ be 2 m.toteSequence
  ++ [byte m.place]

/-- The MANIFEST_TAKE reply body (11.4): the records returned, the number remaining, the next record number. -/
def manifestBody (taken : List ManifestRecord) (remaining next : Nat) : List Byte :=
  [byte taken.length, byte remaining] ++ be 4 next ++ taken.flatMap ManifestRecord.bytes

/-- A zone's six bytes of the SHELF_STATUS body (Table 11-12). -/
def Zone.statusBytes (z : Zone) : List Byte :=
  [byte z.state.ctorIdx, byte (flagBits [z.reading0.isSome, z.reading1.isSome, z.staged.isSome])]
  ++ beInt 2 (z.reading0.getD 0) ++ beInt 2 (z.reading1.getD 0)

/-- The transfer record's bytes 46 to 55 (Table 11-12). -/
def Transfer.statusBytes (now : Nat) (t : Transfer) : List Byte :=
  [byte t.state.ctorIdx,
    byte (flagBits [t.kind.isSome, t.slot.isSome, t.lane.isSome, t.start.isSome, t.seatDone.isSome]),
    byte ((t.kind.map TransferKind.ctorIdx).getD 0), byte ((t.slot.map Fin.val).getD 0),
    byte ((t.lane.map Fin.val).getD 0)]
  ++ be 4 (elapsed now t.start) ++ [flagByte (t.seatDone.getD false)]

/-- Code and handler reason of a stall cause (Table 11-12). -/
def StallCause.bytes : StallCause → List Byte
  | .refused reason => [0, reason]
  | .noAnswer => [1, 0]

/-- The stall flag's bytes 57 to 61 (Table 11-12), 0 where it is clear. -/
def stallBytes : Option Stall → List Byte
  | some x => 1 :: x.cause.bytes ++ [byte x.slot.val, byte x.lane.val]
  | none => List.replicate 5 0

/-- The class enables as bits, class 0 first (Table 10-5). -/
def Enables.bits (e : Enables) : List Bool :=
  [e.slot, e.fault, e.grade, e.zone, e.transfer, e.lane, e.diag, e.snapshot, e.supervision]

/-- The time left on the silence timer in ms, 0 while it is stopped (R194). -/
def State.silenceLeft (s : State) : Nat := (s.silence.timer.map fun d => d - s.now).getD 0

/-- The SHELF_STATUS reply body (R194, Table 11-12). -/
def State.statusBody (s : State) : List Byte :=
  [byte s.mode.ctorIdx, byte s.silence.mode.ctorIdx] ++ be 2 s.silence.period ++ be 4 s.silenceLeft
  ++ [flagByte s.silence.expired, flagByte s.events.lost] ++ be 2 (flagBits s.events.enables.bits)
  ++ [byte s.events.queue.length, s.events.next] ++ be 2 s.settings.budget ++ be 2 s.reservedSum
  ++ s.admission.toList.map (fun q => byte q.length)
  ++ s.zones.toList.flatMap Zone.statusBytes
  ++ s.handler.transfer.statusBytes s.now
  ++ [flagByte s.dispatch.enabled] ++ stallBytes s.dispatch.stall
  ++ [byte s.dispatch.queue.length, byte s.dispatch.manifest.length] ++ be 4 s.dispatch.nextRecord

end Sys2Proof.Machine
end

