-- ==== Sys2Proof/Machine/DispatchRequests.lean ====
section
/-! DEFINITION. The requests of dispatch and of transfers (R155, R158, R159, R163, R174, R175): DISPATCH_ENABLE,
DISPATCH_WITHDRAW, LANE_OPEN, LANE_CLOSE, MANIFEST_TAKE, HANDLER_RESUME, TRANSFER_CONFIRM. -/

namespace Sys2Proof.Machine

/-- The act of a DISPATCH_ENABLE with a setting (R159). -/
def State.setDispatch (s : State) (on : Bool) : State :=
  let s1 : State := { s with dispatch := { s.dispatch with enabled := on } }
  if on then s1.callPick else s1

/-- DISPATCH_ENABLE (R159). -/
def execDispatchEnable (s : State) : Host.Outcome State Fault Refusal :=
  .next (s.takeRequest (· == 0x28) (exactly 1) fun t q =>
    match dispatchSetting (field q.body 0) with
    | some on => (t.setDispatch on).accept
    | none => t.refuse .range)
where
  /-- A setting's code (Table 11-3). -/
  dispatchSetting (b : Byte) : Option Bool := [false, true][b.toNat]?

/-- The act of a DISPATCH_WITHDRAW on a slot (R158). -/
def State.withdraw (s : State) (i : SlotId) : Answer :=
  if (s.record i).life ≠ .dispatch then s.refuse .state
  else if s.isOffered i then s.refuse .inUse
  else ((s.leaveDispatch i).enter i .held .withdrawn none (some .withdrawn)).accept

/-- DISPATCH_WITHDRAW (R158). -/
def execDispatchWithdraw (s : State) : Host.Outcome State Fault Refusal :=
  .next (s.takeRequest (· == 0x29) (exactly 1) fun t q => t.withSlot (field q.body 0) t.withdraw)

/-- The act of a LANE_OPEN on a lane (R155): a CLOSED lane takes the state its count gives it. -/
def State.laneOpen (s : State) (l : LaneId) : State :=
  let x := s.lane l
  if x.state = .closed then
    let s1 := (s.setLane l { x with state := x.byCount }).laneEvent l .opened .closed
    if x.byCount = .open then s1.callPick else s1
  else s

/-- LANE_OPEN (R155). -/
def execLaneOpen (s : State) : Host.Outcome State Fault Refusal :=
  .next (s.takeRequest (· == 0x2A) (exactly 1) fun t q =>
    t.withLane (field q.body 0) fun l => (t.laneOpen l).accept)

/-- A lane becomes CLOSED, with its LANE event where it was not (R154, R155). -/
def State.closeLane (s : State) (l : LaneId) (cause : LaneCause) : State :=
  let x := s.lane l
  if x.state = .closed then s else (s.setLane l { x with state := .closed }).laneEvent l cause x.state

/-- LANE_CLOSE (R155). -/
def execLaneClose (s : State) : Host.Outcome State Fault Refusal :=
  .next (s.takeRequest (· == 0x2B) (exactly 1) fun t q =>
    t.withLane (field q.body 0) fun l => (t.closeLane l .closed).accept)

/-- The act of a MANIFEST_TAKE (R163). -/
def State.manifestTake (s : State) (n : Nat) : Answer :=
  if Config.manifestDepth < n then s.refuse .range
  else
    let k := min n Config.takeMax
    let taken := s.dispatch.manifest.take k
    let rest := s.dispatch.manifest.drop k
    let s1 : State := { s with dispatch := { s.dispatch with manifest := rest } }
    let s2 := if taken.isEmpty then s1 else s1.callPick
    s2.accept (manifestBody taken rest.length s.dispatch.nextRecord)

/-- MANIFEST_TAKE (R163). -/
def execManifestTake (s : State) : Host.Outcome State Fault Refusal :=
  .next (s.takeRequest (· == 0x2C) (exactly 1) fun t q => t.manifestTake (field q.body 0).toNat)

/-- The act of a HANDLER_RESUME (R174). -/
def State.handlerResume (s : State) : Answer :=
  if s.handler.transfer.state = .awaitingConfirm then s.refuse .state
  else if s.dispatch.stall.isSome then
    (State.callPick { s with dispatch := { s.dispatch with stall := none } }).accept
  else s.accept

/-- HANDLER_RESUME (R174). -/
def execHandlerResume (s : State) : Host.Outcome State Fault Refusal :=
  .next (s.takeRequest (· == 0x30) (exactly 0) fun t _ => t.handlerResume)

/-- An outcome's code (Table 11-3). -/
def outcomeOf (b : Byte) : Option ConfirmOutcome := [ConfirmOutcome.inTote, .inSlot, .lost][b.toNat]?

/-- What a confirmation does to the lane, the manifest and the slot (R175). -/
def State.confirmPick (s : State) (i : SlotId) (l : LaneId) (o : ConfirmOutcome) : State :=
  match o with
  | .inTote => (s.book i l true).leaveUnloading i .confirmed
  | .inSlot => s.placeByBin i .confirmed .confirmedBack
  | .lost => s.leaveUnloading i .confirmed

/-- The presence of a slot speaks against an outcome (R175 check 3). -/
def ConfirmOutcome.contradicts (o : ConfirmOutcome) (p : Presence) : Bool :=
  match o, p with
  | .inTote, .present | .inSlot, .absent => true
  | _, _ => false

/-- The act of a TRANSFER_CONFIRM with an outcome (R175). -/
def State.transferConfirm (s : State) (o : ConfirmOutcome) : Answer :=
  match s.handler.transfer with
  | .pick .awaitingConfirm i l _ =>
    if o.contradicts (s.record i).presence then s.refuse .state
    else ((s.confirmPick i l o).moveTransfer .idle none (.confirmed o)).accept
  | _ => s.refuse .state

/-- TRANSFER_CONFIRM (R175). -/
def execTransferConfirm (s : State) : Host.Outcome State Fault Refusal :=
  .next (s.takeRequest (· == 0x31) (exactly 1) fun t q =>
    match outcomeOf (field q.body 0) with
    | some o => t.transferConfirm o
    | none => t.refuse .range)

end Sys2Proof.Machine
end

