-- ==== Sys2Proof/Machine/HandlerEvents.lean ====
section
/-! DEFINITION. The Handler Link (chapter 9, R154, R199): SEAT_REQUEST, SEAT_DONE, TAKEN, REFUSED, DONE, FAILED, TOTE_IN,
TOTE_OUT, HANDLER_FRAME_MALFORMED, OFFER_TIMEOUT, CARRY_TIMEOUT, SEAT_DONE_WAIT_EXPIRY, HANDLER_FRAME_SENT. -/

namespace Sys2Proof.Machine

/-! ### Answers (R167) -/

/-- Kind codes of the handler's messages (Table 11-9). -/
def kindSeatRequest : Byte := 0x40
def kindSeatDone : Byte := 0x41
def kindTaken : Byte := 0x42
def kindRefused : Byte := 0x43
def kindDone : Byte := 0x44
def kindFailed : Byte := 0x45
def kindToteIn : Byte := 0x46
def kindToteOut : Byte := 0x47

/-- A handler frame is complete: the receiver hunts again from the next byte (R180; log 13). -/
def State.handlerFrame (s : State) : State := { s with handler := { s.handler with rx := .hunting } }

/-- The message is acknowledged (R167). -/
def State.ack (s : State) (kind tag : Byte) : State := s.sendHandler (.ack kind tag)

/-- The message is answered with NAK, and has no other effect (R167). -/
def State.nak (s : State) (kind tag : Byte) (reason : NakReason) : State := s.sendHandler (.nak kind reason tag)

/-- What a message about a slot does where the record's state takes it: the slot the record names, and the effect of a
message that names it. -/
structure Expected where
  slot : SlotId
  act : State → State

/-- A message about a slot (R167, Table 9-4): RANGE above 23; NOT_EXPECTED where the record's state does not take the
message; WRONG_SLOT where it takes it for another slot; else acknowledged, and then its effect (R199: the answer is
formed before any PICK). -/
def State.slotMessage (s : State) (kind tag slot : Byte) (expected : SlotId → State → Option Expected) : State :=
  let t := s.handlerFrame
  let answered :=
    if h : slot.toNat < 24 then
      let i : SlotId := ⟨slot.toNat, h⟩
      match expected i t with
      | some e => if e.slot = i then e.act (t.ack kind tag) else t.nak kind tag .wrongSlot
      | none => t.nak kind tag .notExpected
    else t.nak kind tag .range
  answered.finish

/-! ### Picks -/

/-- The instant a carry timer started now runs out (Table 9-1). -/
def State.carryDeadline (s : State) : Nat := s.now + s.settings.carryTime * 1000

/-- A TAKEN in OFFERED (R169). -/
def State.pickTaken (s : State) (i : SlotId) (l : LaneId) (start : Nat) : State :=
  let s1 := (s.leaveDispatch i).enter i .unloading .taken
  s1.moveTransfer (.pick .carrying i l start) (some s1.carryDeadline) .taken

/-- A TAKEN frame (R169; in CARRYING it has no effect). -/
def State.takenMessage (s : State) (tag slot : Byte) : State :=
  s.slotMessage kindTaken tag slot fun _ t =>
    match t.handler.transfer with
    | .pick .offered i l start => some { slot := i, act := fun t => t.pickTaken i l start }
    | .pick .carrying i _ _ => some { slot := i, act := fun t => t }
    | _ => none

/-- TAKEN (R169). -/
def execHandlerTaken (tag slot : Byte) (s : State) : Host.Outcome State Fault Refusal := .next (s.takenMessage tag slot)

/-- A REFUSED frame (R170). -/
def State.refusedMessage (s : State) (tag slot reason : Byte) : State :=
  s.slotMessage kindRefused tag slot fun _ t =>
    match t.handler.transfer with
    | .pick .offered i l _ => some { slot := i, act := fun t => t.stallPick i l (.refused reason) (.refused reason) }
    | _ => none

/-- REFUSED (R170). -/
def execHandlerRefused (tag slot reason : Byte) (s : State) : Host.Outcome State Fault Refusal :=
  .next (s.refusedMessage tag slot reason)

/-- A DONE in CARRYING (R171, R162): booked, the slot out of UNLOADING, the record IDLE. -/
def State.pickDone (s : State) (i : SlotId) (l : LaneId) : State :=
  ((s.book i l false).leaveUnloading i .delivered).moveTransfer .idle none .done

/-- A DONE frame (R171). -/
def State.doneMessage (s : State) (tag slot : Byte) : State :=
  s.slotMessage kindDone tag slot fun _ t =>
    match t.handler.transfer with
    | .pick .carrying i l _ => some { slot := i, act := fun t => t.pickDone i l }
    | _ => none

/-- DONE (R171). -/
def execHandlerDone (tag slot : Byte) (s : State) : Host.Outcome State Fault Refusal := .next (s.doneMessage tag slot)

/-- A FAILED frame (R172). -/
def State.failedMessage (s : State) (tag slot reason : Byte) : State :=
  s.slotMessage kindFailed tag slot fun _ t =>
    match t.handler.transfer with
    | .pick .carrying i l start =>
      some { slot := i, act := fun t => t.moveTransfer (.pick .awaitingConfirm i l start) none (.failed reason) }
    | _ => none

/-- FAILED (R172). -/
def execHandlerFailed (tag slot reason : Byte) (s : State) : Host.Outcome State Fault Refusal :=
  .next (s.failedMessage tag slot reason)

/-! ### Seats -/

/-- A GRANT that begins a seat (R176). -/
def State.grantSeat (s : State) (i : SlotId) : State :=
  let s1 := s.enter i .reserved .seatGranted
  s1.moveTransfer (.seat i s1.now false) (some s1.carryDeadline) .granted

/-- A DENY, with its TRANSFER event; the record stays as it was (R176; log 31). -/
def State.denySeat (s : State) (i : SlotId) (tag : Byte) (reason : DenyReason) : State :=
  let r := s.handler.transfer
  (s.sendHandler (.deny i reason tag)).offer (.transfer r.kind r.slot r.lane r.state r.state (.denied reason))

/-- The judgement of a SEAT_REQUEST for a slot in range (R176). -/
def State.seatRequested (s : State) (i : SlotId) (tag : Byte) : State :=
  match s.handler.transfer, s.mode with
  | .seat j _ _, .safe =>
    if j = i then s.sendHandler (.grant i tag) else s.denySeat i tag .safe
  | .seat j _ _, .run =>
    if j = i then s.sendHandler (.grant i tag) else s.denySeat i tag .busy
  | _, .safe => s.denySeat i tag .safe
  | .pick _ _ _ _, .run => s.denySeat i tag .busy
  | .idle, .run =>
    if (s.record i).life = .empty then (s.sendHandler (.grant i tag)).grantSeat i else s.denySeat i tag .occupied

/-- A SEAT_REQUEST frame (R176). -/
def State.seatRequestMessage (s : State) (tag slot : Byte) : State :=
  let t := s.handlerFrame
  let answered :=
    if h : slot.toNat < 24 then t.seatRequested ⟨slot.toNat, h⟩ tag else t.nak kindSeatRequest tag .range
  answered.finish

/-- SEAT_REQUEST (R176). -/
def execSeatRequest (tag slot : Byte) (s : State) : Host.Outcome State Fault Refusal :=
  .next (s.seatRequestMessage tag slot)

/-- A SEAT_DONE in SEATING (R177): the first sets the mark and starts the seat-done wait in place of the carry timer. -/
def State.seatDone (s : State) (i : SlotId) (start : Nat) (done : Bool) : State :=
  if done then s
  else
    { s with
      handler := { s.handler with
        transfer := .seat i start true
        timer := some (s.now + s.settings.presenceGuard) } }

/-- A SEAT_DONE frame (R177). In IDLE it is taken for the closed-seat slot alone. -/
def State.seatDoneMessage (s : State) (tag slot : Byte) : State :=
  s.slotMessage kindSeatDone tag slot fun named t =>
    match t.handler.transfer with
    | .seat i start done => some { slot := i, act := fun t => t.seatDone i start done }
    | .idle =>
      if t.handler.closedSeat = some named then
        some { slot := named, act := fun t => { t with handler := { t.handler with closedSeat := none } } }
      else none
    | .pick _ _ _ _ => none

/-- SEAT_DONE (R177). -/
def execSeatDone (tag slot : Byte) (s : State) : Host.Outcome State Fault Refusal := .next (s.seatDoneMessage tag slot)

/-! ### Totes (R154) -/

/-- A message about a lane (R167): RANGE above 5, else acknowledged, and then its effect. -/
def State.laneMessage (s : State) (kind tag lane : Byte) (act : LaneId → State → State) : State :=
  let t := s.handlerFrame
  let answered :=
    if h : lane.toNat < 6 then act ⟨lane.toNat, h⟩ (t.ack kind tag) else t.nak kind tag .range
  answered.finish

/-- A tote set down in a lane (R154). -/
def State.toteIn (s : State) (l : LaneId) : State :=
  let x := s.lane l
  ((s.setLane l { x with count := 0, toteSequence := (x.toteSequence + 1) % 65536, state := .open }).laneEvent l
    .toteIn x.state).callPick

/-- A TOTE_IN frame (R154). -/
def State.toteInMessage (s : State) (tag lane : Byte) : State :=
  s.laneMessage kindToteIn tag lane fun l t => t.toteIn l

/-- TOTE_IN (R154). -/
def execToteIn (tag lane : Byte) (s : State) : Host.Outcome State Fault Refusal := .next (s.toteInMessage tag lane)

/-- A TOTE_OUT frame (R154). -/
def State.toteOutMessage (s : State) (tag lane : Byte) : State :=
  s.laneMessage kindToteOut tag lane fun l t => t.closeLane l .toteOut

/-- TOTE_OUT (R154). -/
def execToteOut (tag lane : Byte) (s : State) : Host.Outcome State Fault Refusal := .next (s.toteOutMessage tag lane)

/-! ### Frames and timers -/

/-- What a valid frame of the handler does, by its kind and its body's length (R199, Table 11-9): a frame of one of the
eight handler kinds with its body's length acts as its message; any other is malformed and does nothing. -/
def State.handlerMessage (s : State) (q : Request) : State :=
  match q.kind.toNat, q.body with
  | 0x40, [slot] => s.seatRequestMessage q.tag slot
  | 0x41, [slot] => s.seatDoneMessage q.tag slot
  | 0x42, [slot] => s.takenMessage q.tag slot
  | 0x43, [slot, reason] => s.refusedMessage q.tag slot reason
  | 0x44, [slot] => s.doneMessage q.tag slot
  | 0x45, [slot, reason] => s.failedMessage q.tag slot reason
  | 0x46, [lane] => s.toteInMessage q.tag lane
  | 0x47, [lane] => s.toteOutMessage q.tag lane
  | _, _ => s

/-- A byte from the handler passes through the receiver (R180), and a frame it completes has its effect at once
(R199). -/
def State.handlerByte (s : State) (b : Byte) : State :=
  let (rx, frame) := s.handler.rx.feed s.now b
  let s1 : State := { s with handler := { s.handler with rx } }
  match frame with
  | some q => s1.handlerMessage q
  | none => s1

/-- HANDLER_FRAME_MALFORMED: bytes from the handler pass through the receiver one by one (R199, R180). A malformed frame
they complete has no answer and no effect; a well-formed one acts as its message does (log 13). -/
def execHandlerFrameMalformed (bytes : List Byte) (s : State) : Host.Outcome State Fault Refusal :=
  .next (bytes.foldl State.handlerByte s)

/-- OFFER_TIMEOUT: the offer timer runs out (R170). -/
def execOfferTimeout (s : State) : Host.Outcome State Fault Refusal :=
  match s.handler.transfer, s.handler.timer with
  | .pick .offered i l _, some d => .next ((s.reach d).stallPick i l .noAnswer .noAnswer).finish
  | _, _ => .next s

/-- A seat that ends without a drive (R177, R13): the slot is EMPTY, the record IDLE. -/
def State.seatReleased (s : State) (i : SlotId) (cause : TransferCause) : State :=
  (s.enterFresh i .empty .seatReleased).moveTransfer .idle none cause

/-- CARRY_TIMEOUT: the carry timer runs out, for a pick (R172) or for a seat with no SEAT_DONE received (R177). -/
def execCarryTimeout (s : State) : Host.Outcome State Fault Refusal :=
  match s.handler.transfer, s.handler.timer with
  | .pick .carrying i l start, some d =>
    .next ((s.reach d).moveTransfer (.pick .awaitingConfirm i l start) none .carryTimeout).finish
  | .seat i _ false, some d => .next ((s.reach d).seatReleased i .carryTimeout).finish
  | _, _ => .next s

/-- SEAT_DONE_WAIT_EXPIRY: the seat-done wait runs out (R177). -/
def execSeatDoneWaitExpiry (s : State) : Host.Outcome State Fault Refusal :=
  match s.handler.transfer, s.handler.timer with
  | .seat i _ true, some d => .next ((s.reach d).seatReleased i .seatFail).finish
  | _, _ => .next s

/-- HANDLER_FRAME_SENT: the frame on the Handler Link's line has been sent, and the next one begins (R199). -/
def execHandlerFrameSent (s : State) : Host.Outcome State Fault Refusal :=
  .next (State.finish { s with handler := { s.handler with line := none } })

end Sys2Proof.Machine
end

