-- ==== Sys2Proof/Machine/PowerEvents.lean ====
section
/-! DEFINITION. The Power Sequencer's events (R39 to R48): READY_LINE_CHANGE, SPINUP_TIMEOUT, READY_GUARD_EXPIRY,
CURRENT_SAMPLE. -/

namespace Sys2Proof.Machine

/-- The capture of a rise (R40): the Power Sequencer's part, then the Step Sequencer's. -/
def State.capture (s : State) (i : SlotId) (kind : SpinKind) : State :=
  (s.takeSpinup i).spinupTaken i kind

/-- READY_LINE_CHANGE: the ready line of a slot takes a level (R39). While the capture is armed the first rise is
captured, which for a line found high at power-on comes after a fall. -/
def execReadyLineChange (i : SlotId) (level : Bool) (s : State) : Host.Outcome State Fault Refusal :=
  let x := s.slot i
  let s1 := s.modSlot i fun x => { x with ready := level }
  match x.power.spinup, x.ready, level with
  | some c, false, true => .next (s1.capture i c.kind).finish
  | some c, true, false => .next (s1.modPower i fun p => { p with spinup := some { c with fallNoted := true } })
  | _, _, _ => .next s1

/-- SPINUP_TIMEOUT: the spin-up timer of a slot runs out (R42). -/
def execSpinupTimeout (i : SlotId) (s : State) : Host.Outcome State Fault Refusal :=
  match (s.power i).spinup with
  | some c =>
    let s1 := ((s.reach c.deadline).powerOff i).offer (.noSpin i c.kind)
    .next (s1.spinupFailed i c.kind).finish
  | none => .next s

/-- READY_GUARD_EXPIRY: the ready guard of a slot runs out (R41): the line is no longer watched, the 12 V over-count
is 0. -/
def execReadyGuardExpiry (i : SlotId) (s : State) : Host.Outcome State Fault Refusal :=
  match (s.power i).guard with
  | some d => .next ((s.reach d).modPower i fun p => { p with guard := none, over12 := 0 })
  | none => .next s

/-! ### Current monitoring (R44 to R48) -/

/-- A sample's reading (R44): the raw code plus the channel's offset, brought into 0 to 4095; raw 4095 is SATURATED. -/
def readingOf (offset : Int) (raw : Code) : Reading :=
  { code := (clampInt 0 4095 (raw.toNat + offset)).toNat, saturated := raw == 4095 }

/-- The CHAN_OFFSET entry of a slot's channel (2.5): index slot × 2 + channel. -/
def State.channelOffset (s : State) (i : SlotId) (channel : Fin 2) : Int :=
  s.offsets[i.val * 2 + channel.val]

/-- The sample is over a ceiling (R45). -/
def Reading.over (r : Reading) (ceiling : Nat) : Bool := r.saturated || decide (ceiling < r.code)

/-- An over-count after a sample (R45). -/
def overCount (count : Nat) (exceeds : Bool) : Nat := if exceeds then count + 1 else 0

/-- The 12 V ceiling that applies (Table 2-8). -/
def State.ceiling12 (s : State) (i : SlotId) : Nat :=
  if (s.record i).powerPhase = some .on ∧ (s.power i).guard = none then s.settings.runCeiling
  else s.settings.surgeCeiling

/-- Dark counting applies (Table 2-8): ACTIVE, ON, after the guard, mask clear. -/
def State.darkCounts (s : State) (i : SlotId) : Bool :=
  (s.record i).life == .active && (s.record i).powerPhase == some .on && (s.power i).guard.isNone
    && !s.settings.darkMask.getLsbD i.val

/-- The dark count after a sample, while dark counting applies (R45). -/
def darkAfter (count : Nat) (r : Reading) (threshold : Nat) : Nat :=
  if !r.saturated ∧ r.code < threshold then count + 1 else 0

/-- A sample kept and counted (R44, R45), and the next one due 10 ms later. -/
def State.takeSample (s : State) (i : SlotId) (r12 r5 : Reading) : State :=
  let c12 := s.ceiling12 i
  let dark := s.darkCounts i
  s.modPower i fun p =>
    { p with
      last12 := r12
      last5 := r5
      over12 := overCount p.over12 (r12.over c12)
      over5 := overCount p.over5 (r5.over s.settings.fiveCeiling)
      dark := if dark then darkAfter p.dark r12 s.settings.darkThreshold else 0
      sampleDue := p.sampleDue.map (· + Config.samplePeriod) }

/-- The channels whose over-counts have reached 3 (R45). -/
def PowerContext.overcurrent (p : PowerContext) : Option Channel :=
  match decide (Config.overcurrentCount ≤ p.over12), decide (Config.overcurrentCount ≤ p.over5) with
  | true, true => some .both
  | true, false => some .v12
  | false, true => some .v5
  | false, false => none

/-- The FAULT event of an overcurrent (R46 step 2): the reading of each channel over. -/
def overcurrentEvent (i : SlotId) (ch : Channel) (p : PowerContext) (phase : PowerPhase) : Event :=
  .overcurrent i ch (if ch = .v5 then none else some p.last12) (if ch = .v12 then none else some p.last5) phase

/-- An overcurrent (R46, R47). -/
def State.overcurrentTaken (s : State) (i : SlotId) (ch : Channel) : State :=
  let e := overcurrentEvent i ch (s.power i) (((s.record i).powerPhase).getD .off)
  let s1 := (s.powerOff i).offer e
  match (s.record i).life with
  | .active => s1.faultRun i .power .power .powerFault
  | .parking => if (s1.run i).stage = .parkWait then s1.beginSpinDown i else s1
  | _ => s1

/-- A dark drive (R48, R118). -/
def State.darkTaken (s : State) (i : SlotId) : State :=
  let s1 := (s.powerOff i).offer (.dark i (s.power i).last12)
  (s1.failBegun i .power).planEnd i (some .dark)

/-- What a sample's counts lead to (R45): an overcurrent before a dark drive. -/
def State.judgeSample (s : State) (i : SlotId) : State :=
  match (s.power i).overcurrent with
  | some ch => s.overcurrentTaken i ch
  | none => if Config.darkCount ≤ (s.power i).dark then s.darkTaken i else s

/-- CURRENT_SAMPLE: both channels of a slot are sampled, at the instant its sample is due (R44). -/
def execCurrentSample (i : SlotId) (raw12 raw5 : Code) (s : State) : Host.Outcome State Fault Refusal :=
  match (s.power i).sampleDue with
  | some d =>
    let r12 := readingOf (s.channelOffset i 0) raw12
    let r5 := readingOf (s.channelOffset i 1) raw5
    .next (((s.reach d).takeSample i r12 r5).judgeSample i).finish
  | none => .next s

end Sys2Proof.Machine
end

