-- ==== Sys2Proof/Machine/Presence.lean ====
section
/-! DEFINITION. The presence switches (R6 to R12): RAW_SWITCH_CHANGE, PRESENCE_TAKEN. -/

namespace Sys2Proof.Machine

/-- The switch level that a presence stands for. -/
def Presence.level : Presence → Bool
  | .absent => false
  | .present => true

/-- The presence that a switch level stands for. -/
def presenceOf : Bool → Presence
  | false => .absent
  | true => .present

/-- The switch takes a level (R6): a level that differs from presence starts a pending change where none is pending, and
one that agrees with it abandons the pending change. -/
def Switch.take (w : Switch) (level : Bool) (p : Presence) (due : Nat) : Switch :=
  { raw := level, pending := if level = p.level then none else some (w.pending.getD due) }

/-- RAW_SWITCH_CHANGE: the raw presence switch of a slot takes a level (R6). -/
def execRawSwitchChange (i : SlotId) (level : Bool) (s : State) : Host.Outcome State Fault Refusal :=
  .next (s.modSlot i fun x =>
    { x with switch := x.switch.take level x.record.presence (s.now + s.settings.presenceGuard) })

/-- The seat of a RESERVED slot ends by presence (R177): IDLE, with the closed-seat slot where SEAT_DONE has not come. -/
def State.seatTaken (s : State) (i : SlotId) : State :=
  match s.handler.transfer with
  | .seat j _ done =>
    if j = i then
      let s1 := s.moveTransfer .idle none .seated
      { s1 with handler := { s1.handler with closedSeat := if done then none else some i } }
    else s
  | _ => s

/-- Presence taken as PRESENT (R8), presence already written. -/
def State.presenceGained (s : State) (i : SlotId) : State :=
  match (s.record i).life with
  | .empty => (s.enterFresh i .seated .seated).considerAutostart i
  | .reserved => ((s.enterFresh i .seated .seated).considerAutostart i).seatTaken i
  | .unloading | .seated | .active | .parking | .dispatch | .held | .faulted => s

/-- The Power Sequencer's part of a presence loss during a run (R10). -/
def State.cutPower (s : State) (i : SlotId) : State :=
  match (s.record i).powerPhase with
  | some .spinup | some .on => s.powerOff i
  | some .queued => s.leaveAdmission i
  | some .off | none => s

/-- The loss of an offered pick's drive, taken as the handler's TAKEN (R12, R173). -/
def State.pickPulled (s : State) (i : SlotId) : State :=
  let s1 := (s.leaveDispatch i).enter i .unloading .pulled
  match s1.handler.transfer with
  | .pick .offered j l t =>
    if j = i then
      s1.moveTransfer (.pick .carrying i l t) (some (s1.now + s1.settings.carryTime * 1000)) .pulled
    else s1
  | _ => s1

/-- Presence taken as ABSENT (R10 to R12), presence already written. -/
def State.presenceLost (s : State) (i : SlotId) : State :=
  match (s.record i).life with
  | .active | .parking => (s.cutPower i).enterFresh i .empty .pulled
  | .seated | .held | .faulted => s.enterFresh i .empty .pulled
  | .dispatch => if s.isOffered i then s.pickPulled i else (s.leaveDispatch i).enterFresh i .empty .pulled
  | .unloading | .empty | .reserved => s

/-- PRESENCE_TAKEN: the guard of the slot's pending change runs out (R6): presence takes the raw level. -/
def execPresenceTaken (i : SlotId) (s : State) : Host.Outcome State Fault Refusal :=
  let w := (s.slot i).switch
  match w.pending with
  | some d =>
    let s1 := (s.reach d).modSlot i fun x =>
      { x with switch := { x.switch with pending := none }, record := { x.record with presence := presenceOf w.raw } }
    .next (if w.raw then s1.presenceGained i else s1.presenceLost i).finish
  | none => .next s

end Sys2Proof.Machine
end

