-- ==== Sys2Proof/Machine/Resets.lean ====
section
/-! DEFINITION. The resets (R25, R26, R51, R76, R100, R122, R164, R179, R195): POWER_ON_RESET, WARM_RESET. -/

namespace Sys2Proof.Machine

/-- The first control periods, made at the reset itself (R53, R76), by the zones in ascending order (DESIGN CHOICE,
log 52). -/
def State.firstPeriods (s : State) (reads : Vector ZoneReads 4) : State :=
  allBays.foldl (fun t z => t.periodNow z reads[z.val]) s

/-- A slot at power-on (R25): everything as Slot.reset, but that the two pins keep their levels, and a switch found
closed starts a pending change against the ABSENT presence, with the default guard (log 11). -/
def Slot.powerOn (x : Slot) : Slot :=
  { Slot.reset with
    switch := { raw := x.switch.raw, pending := if x.switch.raw then some Settings.reset.presenceGuard else none }
    ready := x.ready }

/-- POWER_ON_RESET: the state of State.reset with the pins as they are and the queue of commands kept, then the first
control periods (R25, R53, R76). -/
def execPowerOnReset (reads : Vector ZoneReads 4) (s : State) : Host.Outcome State Fault Refusal :=
  let s1 : State := { State.reset with slots := s.slots.map Slot.powerOn, pending := s.pending }
  .next (s1.firstPeriods reads).finish

/-- A slot re-evaluated from its presence (R26): SEATED or EMPTY with a fresh record, unpowered, nothing running. -/
def Slot.warmReset (x : Slot) : Slot :=
  { x with
    record := .fresh (if x.record.presence = .present then .seated else .empty) x.record.presence
    power := .idle
    run := .idle
    bus := .idle }

/-- A zone at a warm reset (R76): OFF, position discarded, staged profile active, mark clear, heater 0, fan floor. -/
def Zone.warmReset (z : Zone) : Zone :=
  { z.discard with state := .off, left := .off, degraded := false, heater := 0, fan := z.param.fanFloor }

/-- The Handler Link Port at a warm reset (R179, R199). The frame being transmitted is cut off by the reset line alone
(R195; log 30). -/
def HandlerPort.warmReset (h : HandlerPort) (cause : ResetCause) : HandlerPort :=
  { HandlerPort.reset with line := if cause = .request then h.line else none }

/-- What every block clears at a warm reset (R195 steps 1 to 3, R26, R51, R76, R100, R122, R164, R179). -/
def State.clearWork (s : State) (cause : ResetCause) : State :=
  { s with
    mode := .run
    cell := .reset
    events := { s.events with queue := [] }
    silence := { s.silence with timer := some (s.now + s.silence.period * 1000) }
    slots := s.slots.map Slot.warmReset
    admission := Vector.replicate 4 []
    zones := s.zones.map Zone.warmReset
    buses := Vector.replicate 4 .reset
    dispatch := { s.dispatch with queue := [], stall := none }
    handler := s.handler.warmReset cause
    admissionDue := false
    pickDue := false }

/-- Autostart considered for every slot that a warm reset leaves SEATED (R26, R20), in ascending slot order
(DESIGN CHOICE, log 45). -/
def State.autostartAll (s : State) : State :=
  s.forSlots allSlots fun i t => if (t.record i).life = .seated then t.considerAutostart i else t

/-- The warm reset: every block cleared, RESTARTED offered, the first control periods, then autostart (R195, R76). -/
def State.warmReset (s : State) (cause : ResetCause) (reads : Vector ZoneReads 4) : State :=
  ((((s.clearWork cause).offer (.supervision (.restarted cause))).firstPeriods reads).autostartAll).finish

/-- WARM_RESET: from the reset line at any time; for RESTART once its reply has been sent (R195; log 6). -/
def execWarmReset (cause : ResetCause) (reads : Vector ZoneReads 4) (s : State) : Host.Outcome State Fault Refusal :=
  match cause with
  | .line => .next (s.warmReset .line reads)
  | .request => if s.cell.restart = .due then .next (s.warmReset .request reads) else .next s

end Sys2Proof.Machine
end

