-- ==== Sys2Proof/Machine/CellLink.lean ====
section
/-! DEFINITION. The Cell Link's line (R180 to R184) and the silence timer (R190): CELL_FRAME_RECEIVED,
FRAME_GAP_TIMEOUT, OUTBOUND_FRAME_SENT, SILENCE_EXPIRED. And the entry to SAFE (R192). -/

namespace Sys2Proof.Machine

/-- The silence timer restarted with the period in force, in RUN (R190). -/
def State.restartSilence (s : State) : State :=
  match s.mode with
  | .run => { s with silence := { s.silence with timer := some (s.now + s.silence.period * 1000) } }
  | .safe => s

/-- A valid frame offered to the input queue (R181): accepted, refused with FULL, or dropped. -/
def CellPort.offerFrame (c : CellPort) (q : Request) : CellPort :=
  if c.input.length < Config.inputDepth then { c with input := c.input ++ [q] }
  else if c.refusals.length < Config.refusalDepth then { c with refusals := c.refusals ++ [(q.kind, q.tag)] }
  else c

/-- A valid frame of the host (R180, R190, R181): the timer is restarted first, then the frame is offered. -/
def State.frameArrived (s : State) (q : Request) : State :=
  let s1 := s.restartSilence
  { s1 with cell := s1.cell.offerFrame q }

/-- CELL_FRAME_RECEIVED: bytes arrive on the Cell Link (R180; log 12). -/
def execCellFrameReceived (bytes : List Byte) (s : State) : Host.Outcome State Fault Refusal :=
  let (rx, frames) := s.cell.rx.feedAll s.now bytes
  let s1 : State := { s with cell := { s.cell with rx } }
  .next (frames.foldl State.frameArrived s1).finish

/-- The receiver of a link. -/
def State.receiver (s : State) : FrameLink → Receiver
  | .cell => s.cell.rx
  | .handler => s.handler.rx

/-- The receiver of a link replaced. -/
def State.setReceiver (s : State) (link : FrameLink) (rx : Receiver) : State :=
  match link with
  | .cell => { s with cell := { s.cell with rx } }
  | .handler => { s with handler := { s.handler with rx } }

/-- FRAME_GAP_TIMEOUT: the gap limit runs out after the last byte of the frame a link assembles; the frame is discarded,
and the receiver hunts (R180). A receiver that hunts has no gap (log 4). -/
def execFrameGapTimeout (link : FrameLink) (s : State) : Host.Outcome State Fault Refusal :=
  match (s.receiver link).gapDeadline with
  | some d => .next ((s.reach d).setReceiver link .hunting)
  | none => .next s

/-- The frame on the Cell Link's line has been sent in full (R184). The RESTART reply makes the warm reset due (R195). -/
def CellPort.sent (c : CellPort) : CellPort :=
  match c.line with
  | some f => { c with line := none, restart := if c.restart = .called ∧ f.isReply then .due else c.restart }
  | none => c

/-- OUTBOUND_FRAME_SENT: the frame on the line has been sent, and the next one begins (R184). Where a reply has been
sent and both a request and an event wait, the event begins before the request is taken (DESIGN CHOICE, log 54). -/
def execOutboundFrameSent (s : State) : Host.Outcome State Fault Refusal :=
  .next (State.finish { s with cell := s.cell.sent })

/-! ### SAFE -/

/-- A gate timer frozen with the time it has left (R108). -/
def StepTimer.freeze (now : Nat) : StepTimer → StepTimer
  | .running d => .frozen (d - now)
  | t => t

/-- A frozen gate timer resumed (R108). -/
def StepTimer.thaw (now : Nat) : StepTimer → StepTimer
  | .frozen left => .running (now + left)
  | t => t

/-- The shelf enters SAFE (R192, R190): mode SAFE, the silence timer stopped, gate timers frozen, duties set at once. -/
def State.enterSafe (s : State) : State :=
  let s1 : State := { s with mode := .safe, silence := { s.silence with timer := none } }
  let s2 := s1.forSlots allSlots fun i t =>
    if t.inPhase i .waitGate then t.modPosition i fun q => { q with timer := q.timer.freeze t.now } else t
  allBays.foldl State.setDuties s2

/-- SILENCE_EXPIRED: the silence timer runs out (R190). -/
def execSilenceExpired (s : State) : Host.Outcome State Fault Refusal :=
  match s.silence.timer with
  | some d =>
    let s1 := (s.reach d).enterSafe
    let s2 : State := { s1 with silence := { s1.silence with expired := true } }
    .next (s2.offer (.supervision .silenceExpired)).finish
  | none => .next s

end Sys2Proof.Machine
end

