-- ==== Sys2Proof/Machine/Operands.lean ====
section
/-! DEFINITION. The operands of requests: the entries of the ten tables, read and written (R185, R186, Tables 11-5 and
11-6), and the shelf settings (R187, Table 11-4). -/

namespace Sys2Proof.Machine

/-! ### Enumerations received (R196: a byte beyond the last member is refused) -/

/-- A set or clear byte. -/
def flagOf (b : Byte) : Option Bool := [false, true][b.toNat]?

/-- Kind of a step (Table 11-6). -/
def stepKindOf (b : Byte) : Option StepKind := [StepKind.drive, .dwell, .cycle][b.toNat]?

/-- Gate of a step (Table 11-6). -/
def gateOf (b : Byte) : Option Gate := [Gate.none, .band, .hold][b.toNat]?

/-- On-fail action of a step (Table 11-6). -/
def onFailOf (b : Byte) : Option OnFail := [OnFail.next, .endPlan, .reject][b.toNat]?

/-- Destination of a bin (Table 11-5). -/
def destinationOf (b : Byte) : Option Destination :=
  if h : b.toNat < 6 then some (.lane ⟨b.toNat, h⟩) else if b = 6 then some .hold else none

/-- Code of a destination (Table 11-5). -/
def Destination.code : Destination → Byte
  | .lane l => byte l.val
  | .hold => 6

/-! ### Entries: decoded as written, brought into range, encoded for reading -/

/-- A PLAN_HEAD entry as written (Table 11-5): refused where its step count is above 16 (R102) or its
park-before-cycle is neither set nor clear (log 19). -/
def planHeadOf : List Byte → Option PlanHead
  | [n, surge, running, park] =>
    if n.toNat ≤ 16 then
      (flagOf park).map fun p => { stepCount := n.toNat, surge := surge.toNat, running := running.toNat, parkBeforeCycle := p }
    else none
  | _ => none

/-- The clamps of R28: the surge amount to 0.1 to 5.0 A, then the running amount to 0.1 A to the surge amount. -/
def PlanHead.clamp (h : PlanHead) : PlanHead :=
  let surge := clampNat 1 50 h.surge
  { h with surge, running := clampNat 1 surge h.running }

/-- A PLAN_HEAD entry read (Table 11-5). -/
def PlanHead.bytes (h : PlanHead) : List Byte :=
  [byte h.stepCount, byte h.surge, byte h.running, flagByte h.parkBeforeCycle]

/-- A PLAN_STEP entry as written (Table 11-6): refused where its kind, gate or on-fail is no member (R102). -/
def planStepOf (l : List Byte) : Option PlanStep :=
  let n (k w : Nat) := unbe ((l.drop k).take w)
  match stepKindOf (field l 0), gateOf (field l 1), onFailOf (field l 4) with
  | some kind, some gate, some onFail =>
    some
      { kind, gate, gateWait := n 2 2, onFail, testCode := field l 5, argument := BitVec.ofNat 32 (n 6 4),
        timeout := n 10 2, duration := n 12 2, cycleCount := n 14 2, offTime := n 16 2, onTime := n 18 2 }
  | _, _, _ => none

/-- Every numeric field into its range of Table 5-2 (R102). -/
def PlanStep.clamp (e : PlanStep) : PlanStep :=
  { e with
    gateWait := clampNat 0 65535 e.gateWait
    timeout := clampNat 1 65535 e.timeout
    duration := clampNat 1 65535 e.duration
    cycleCount := clampNat 1 1000 e.cycleCount
    offTime := clampNat 1 600 e.offTime
    onTime := clampNat 5 3600 e.onTime }

/-- A PLAN_STEP entry read (Table 11-6). -/
def PlanStep.bytes (e : PlanStep) : List Byte :=
  [byte e.kind.ctorIdx, byte e.gate.ctorIdx] ++ be 2 e.gateWait ++ [byte e.onFail.ctorIdx, e.testCode]
  ++ be 4 e.argument.toNat ++ be 2 e.timeout ++ be 2 e.duration ++ be 2 e.cycleCount ++ be 2 e.offTime
  ++ be 2 e.onTime

/-- A PROFILE_HEAD entry as written: segment count and loop count; refused above 12 segments (R58). -/
def profileHeadOf : List Byte → Option (Nat × Nat)
  | [n, loops] => if n.toNat ≤ 12 then some (n.toNat, loops.toNat) else none
  | _ => none

/-- A PROFILE_SEG entry as written (Table 11-5). -/
def segmentOf (l : List Byte) : Segment :=
  { target := unbeInt (l.take 2), rate := (field l 2).toNat, hold := unbe ((l.drop 3).take 2) }

/-- Target to 80 to 320 q, rate to 0 to 40 (R58). -/
def Segment.clamp (g : Segment) : Segment :=
  { g with target := clampInt 80 320 g.target, rate := clampNat 0 40 g.rate }

/-- A PROFILE_SEG entry read (Table 11-5). -/
def Segment.bytes (g : Segment) : List Byte := beInt 2 g.target ++ [byte g.rate] ++ be 2 g.hold

/-- A ZONE_PARAM entry as written (Table 11-5); its last byte is not read (log 26). -/
def zoneParamOf (l : List Byte) : ZoneParam :=
  let n (k w : Nat) := unbe ((l.drop k).take w)
  { offset0 := unbeInt (l.take 1), offset1 := unbeInt ((l.drop 1).take 1), band := n 2 1, kp := n 3 1, bias := n 4 1,
    kf := n 5 1, fanFloor := n 6 1, safeFan := n 7 1, highLimit := n 8 2, criticalLimit := n 10 2, coolDone := n 12 2 }

/-- Every value into its range of Table 3-1, the critical limit last (R70). -/
def ZoneParam.clamp (p : ZoneParam) : ZoneParam :=
  let high := clampNat 160 440 p.highLimit
  { p with
    offset0 := clampInt (-32) 31 p.offset0
    offset1 := clampInt (-32) 31 p.offset1
    band := clampNat 1 40 p.band
    highLimit := high
    criticalLimit := clampNat (high + 8) 480 p.criticalLimit
    coolDone := clampNat 80 240 p.coolDone }

/-- A ZONE_PARAM entry read (Table 11-5). -/
def ZoneParam.bytes (p : ZoneParam) : List Byte :=
  beInt 1 p.offset0 ++ beInt 1 p.offset1
  ++ [byte p.band, byte p.kp, byte p.bias, byte p.kf, byte p.fanFloor, byte p.safeFan]
  ++ be 2 p.highLimit ++ be 2 p.criticalLimit ++ be 2 p.coolDone ++ [0]

/-- A METRIC entry as written (Table 11-5); its fields hold exactly their ranges (R138). -/
def metricEntryOf (l : List Byte) : MetricEntry :=
  { allowance := unbe (l.take 2), weight := (field l 2).toNat, rejectLimit := unbe ((l.drop 3).take 2) }

/-- A METRIC entry read (Table 11-5). -/
def MetricEntry.bytes (e : MetricEntry) : List Byte := be 2 e.allowance ++ [byte e.weight] ++ be 2 e.rejectLimit

/-- A GRADE entry as written (Table 11-5): refused where its enabled mark is neither set nor clear or its required set
names more than the six metrics (R139). -/
def gradeEntryOf : List Byte → Option GradeEntry
  | [enabled, hi, lo, required] =>
    if required.toNat < 64 then
      (flagOf enabled).map fun e => { enabled := e, ceiling := unbe [hi, lo], required := required.truncate 6 }
    else none
  | _ => none

/-- A GRADE entry read (Table 11-5). -/
def GradeEntry.bytes (e : GradeEntry) : List Byte :=
  flagByte e.enabled :: be 2 e.ceiling ++ [e.required.zeroExtend 8]

/-- A LANE entry read (Table 11-5). -/
def Lane.bytes (x : Lane) : List Byte :=
  [byte x.capacity, byte x.count] ++ be 2 x.toteSequence ++ [byte x.state.ctorIdx]

/-! ### The tables (Table 10-3) -/

/-- The ten tables, in Table 10-3's order, which numbers them (11.3). -/
inductive Table where
  | planHead | planStep | profileHead | profileSeg | zoneParam | metric | grade | binMap | lane | chanOffset
  deriving DecidableEq, Repr

/-- The table of a number (11.3). -/
def tableOf (b : Byte) : Option Table :=
  [Table.planHead, .planStep, .profileHead, .profileSeg, .zoneParam, .metric, .grade, .binMap, .lane,
    .chanOffset][b.toNat]?

/-- Entries of a table (Table 10-3). -/
def Table.entries : Table → Nat
  | .planHead => 8
  | .planStep => 128
  | .profileHead => 4
  | .profileSeg => 48
  | .zoneParam => 4
  | .metric => 6
  | .grade => 8
  | .binMap => 10
  | .lane => 6
  | .chanOffset => 48

/-- Bytes of a write entry (Table 11-5). -/
def Table.writeSize : Table → Nat
  | .planHead => 4
  | .planStep => 20
  | .profileHead => 2
  | .profileSeg => 5
  | .zoneParam => 15
  | .metric => 5
  | .grade => 4
  | .binMap | .lane | .chanOffset => 1

/-- Bytes of a read entry (Table 11-5). -/
def Table.readSize : Table → Nat
  | .lane => 5
  | t => t.writeSize

/-- An entry carries a value its entry rule refuses (R185 check 4). -/
def Table.refuses (t : Table) (l : List Byte) : Bool :=
  match t with
  | .planHead => (planHeadOf l).isNone
  | .planStep => (planStepOf l).isNone
  | .profileHead => (profileHeadOf l).isNone
  | .grade => (gradeEntryOf l).isNone
  | .binMap => (destinationOf (field l 0)).isNone
  | .profileSeg | .zoneParam | .metric | .lane | .chanOffset => false

/-- Plan of an entry of PLAN_HEAD or PLAN_STEP (R101). -/
def Table.planOf (t : Table) (k : Nat) : Option PlanId :=
  match t with
  | .planHead => if h : k < 8 then some ⟨k, h⟩ else none
  | .planStep => if h : k < 128 then some ⟨k / 16, by omega⟩ else none
  | _ => none

/-- Entry k of a table is in use (R185 check 5, R103). -/
def State.entryInUse (s : State) (t : Table) (k : Nat) : Bool :=
  match t.planOf k with
  | some p => s.planInUse p
  | none => false

/-! ### Storing an entry (R185) -/

/-- The profile a write applies to or a read returns (R59, R60): the staged one where it exists. -/
def Zone.profile (z : Zone) : Profile := z.staged.getD z.active

/-- A profile write (R59, R60): staged for a zone that holds a position, active at once for one that does not. -/
def Zone.writeProfile (z : Zone) (f : Profile → Profile) : Zone :=
  if z.position.isSome then { z with staged := some (f z.profile) } else { z with active := f z.active }

/-- A lane's capacity written (R153): to 1 to 60, then up to the floor. -/
def laneCapacity (floor v : Nat) : Nat := max floor (clampNat 1 60 v)

/-- The lane after its capacity is written (R153): CLOSED stays, else the state follows the count. -/
def Lane.withCapacity (x : Lane) (c : Nat) : Lane :=
  let y := { x with capacity := c }
  if x.state = .closed then y else { y with state := y.byCount }

/-- A lane's capacity stored, with its LANE event and the pick selection of an opened lane (R153). -/
def State.storeCapacity (s : State) (l : LaneId) (v : Nat) : State :=
  let x := s.lane l
  let y := x.withCapacity (laneCapacity (s.laneFloor l) v)
  let s1 := s.setLane l y
  if y.state = x.state then s1
  else
    let s2 := s1.laneEvent l .capacity x.state
    if y.state = .open then s2.callPick else s2

/-- Zone of an entry of PROFILE_HEAD, PROFILE_SEG or ZONE_PARAM (3.3). -/
def zoneOfEntry (k : Nat) : BayId := Fin.ofNat 4 k

/-- One entry stored at index k, with whether a value of it was brought into range (R185). -/
def State.storeEntry (s : State) (t : Table) (k : Nat) (l : List Byte) : State × Bool :=
  match t with
  | .planHead =>
    match planHeadOf l with
    | some h => ({ s with planHeads := s.planHeads.setIfInBounds k h.clamp }, h.clamp != h)
    | none => (s, false)
  | .planStep =>
    match planStepOf l with
    | some e => ({ s with planSteps := s.planSteps.setIfInBounds k e.clamp }, e.clamp != e)
    | none => (s, false)
  | .profileHead =>
    match profileHeadOf l with
    | some (n, loops) =>
      (s.modZone (zoneOfEntry k) fun z => z.writeProfile fun f => { f with segmentCount := n, loopCount := loops }, false)
    | none => (s, false)
  | .profileSeg =>
    let g := segmentOf l
    (s.modZone (zoneOfEntry (k / 12)) fun z =>
      z.writeProfile fun f => { f with segments := f.segments.setIfInBounds (k % 12) g.clamp }, g.clamp != g)
  | .zoneParam =>
    let p := zoneParamOf l
    (s.modZone (zoneOfEntry k) fun z => { z with entry := p.clamp }, p.clamp != p)
  | .metric => ({ s with metricTable := s.metricTable.setIfInBounds k (metricEntryOf l) }, false)
  | .grade =>
    match gradeEntryOf l with
    | some e => ({ s with gradeTable := s.gradeTable.setIfInBounds k e }, false)
    | none => (s, false)
  | .binMap =>
    match destinationOf (field l 0) with
    | some d => (State.callPick { s with binMap := s.binMap.setIfInBounds k d }, false)
    | none => (s, false)
  | .lane =>
    let i : LaneId := Fin.ofNat 6 k
    let v := (field l 0).toNat
    (s.storeCapacity i v, laneCapacity (s.laneFloor i) v != v)
  | .chanOffset => ({ s with offsets := s.offsets.setIfInBounds k (unbeInt (l.take 1)) }, false)

/-- Entries stored in index order from k, with whether any value was brought into range. -/
def State.storeEntries (s : State) (t : Table) : Nat → List (List Byte) → State × Bool
  | _, [] => (s, false)
  | k, l :: rest =>
    let (s1, a) := s.storeEntry t k l
    let (s2, b) := s1.storeEntries t (k + 1) rest
    (s2, a || b)

/-- The first n chunks of a number of bytes each. -/
def chunks (size : Nat) : Nat → List Byte → List (List Byte)
  | 0, _ => []
  | n + 1, l => l.take size :: chunks size n (l.drop size)

/-! ### Reading an entry (R186) -/

/-- Entry k of a table as read (Table 11-5); a staged profile's entries where one exists (R60). An index beyond the
table, which R186 refuses, reads as zeros. -/
def State.readEntry (s : State) (t : Table) (k : Nat) : List Byte :=
  let found : Option (List Byte) :=
    match t with
    | .planHead => (s.planHeads[k]?).map PlanHead.bytes
    | .planStep => (s.planSteps[k]?).map PlanStep.bytes
    | .profileHead => (s.zones[k]?).map fun z => [byte z.profile.segmentCount, byte z.profile.loopCount]
    | .profileSeg => (s.zones[k / 12]?).map fun z => (z.profile.segment (k % 12)).bytes
    | .zoneParam => (s.zones[k]?).map fun z => z.entry.bytes
    | .metric => (s.metricTable[k]?).map MetricEntry.bytes
    | .grade => (s.gradeTable[k]?).map GradeEntry.bytes
    | .binMap => (s.binMap[k]?).map fun d => [d.code]
    | .lane => (s.lanes[k]?).map Lane.bytes
    | .chanOffset => (s.offsets[k]?).map (beInt 1)
  found.getD (List.replicate t.readSize 0)

/-! ### Shelf settings (Table 11-4, R187) -/

/-- Widths of the settings in bytes, bit 0 first (Table 11-4). -/
def settingWidths : List Nat := [2, 1, 2, 1, 1, 2, 2, 2, 2, 4, 1, 2, 1, 1, 1, 1, 1]

/-- Ranges of the settings, bit 0 first (Table 10-4, Table 4-1); the autostart and dark-mask fields are checked, not
clamped. -/
def settingRanges : List (Nat × Nat) :=
  [(50, 1000), (0, 255), (10, 600), (1, 60), (1, 255), (1, 4094), (1, 4094), (1, 4094), (0, 4094),
    (0, 4294967295), (2, 100), (5, 600), (0, 7), (1, 16), (1, 120), (5, 100), (5, 120)]

/-- The present settings' values as written, bit by bit from k (Table 11-4). -/
def settingValues (mask : Nat) : Nat → List Nat → List Byte → List (Option Nat)
  | _, [], _ => []
  | k, w :: ws, l =>
    if mask.testBit k then some (unbe (l.take w)) :: settingValues mask (k + 1) ws (l.drop w)
    else none :: settingValues mask (k + 1) ws l

/-- Bytes of the settings a mask marks present, bit by bit from k. -/
def settingLength (mask : Nat) : Nat → List Nat → Nat
  | _, [] => 0
  | k, w :: ws => (if mask.testBit k then w else 0) + settingLength mask (k + 1) ws

/-- The body of a SHELF_CONFIG fits (R198, 11.3): a mask with no bit above 16, and the settings it marks. -/
def settingsFit (body : List Byte) : Bool :=
  let mask := unbe (body.take 3)
  decide (3 ≤ body.length) && decide (mask < 2 ^ 17)
    && body.length == 3 + settingLength mask 0 settingWidths

/-- Each present value brought into its range. -/
def clampSettings (v : List (Option Nat)) : List (Option Nat) :=
  (v.zip settingRanges).map fun (x, lo, hi) => x.map (clampNat lo hi)

/-- Setting k of a list of present settings. -/
def present (v : List (Option Nat)) (k : Nat) : Option Nat := (v[k]?).join

/-- The settings with every present value, already in range, stored (R187). -/
def Settings.store (g : Settings) (v : List (Option Nat)) : Settings :=
  { presenceGuard := (present v 0).getD g.presenceGuard
    autostart := match present v 1 with
      | some a => if h : a < 8 then some ⟨a, h⟩ else none
      | none => g.autostart
    budget := (present v 2).getD g.budget
    spinupTimeout := (present v 3).getD g.spinupTimeout
    readyGuard := (present v 4).getD g.readyGuard
    surgeCeiling := (present v 5).getD g.surgeCeiling
    runCeiling := (present v 6).getD g.runCeiling
    fiveCeiling := (present v 7).getD g.fiveCeiling
    darkThreshold := (present v 8).getD g.darkThreshold
    darkMask := ((present v 9).map (BitVec.ofNat 24)).getD g.darkMask
    replyWait := (present v 10).getD g.replyWait
    pollInterval := (present v 11).getD g.pollInterval
    retryLimit := (present v 12).getD g.retryLimit
    quantum := (present v 13).getD g.quantum
    spinDownWait := (present v 14).getD g.spinDownWait
    offerTime := (present v 15).getD g.offerTime
    carryTime := (present v 16).getD g.carryTime }

/-- An autostart field that is neither none nor a plan, or a dark-check field naming a slot above 23 (R187). -/
def settingsRefused (v : List (Option Nat)) : Bool :=
  (present v 1).any (fun a => decide (8 ≤ a ∧ a ≠ 255)) || (present v 9).any (fun m => decide (2 ^ 24 ≤ m))

end Sys2Proof.Machine
end

