-- ==== Sys2Proof/Machine/ShelfRequests.lean ====
section
/-! DEFINITION. The Cell Link Port's own requests (chapter 10): UNKNOWN_REQUEST, PING, SHELF_STATUS, SHELF_CONFIG,
TABLE_WRITE, TABLE_READ, EVENT_CONFIG, SILENCE_CONFIG, SHELF_STOP, SHELF_RESUME, RESTART. -/

namespace Sys2Proof.Machine

/-- The kinds of Table 10-2, by their codes (Table 11-3). -/
def requestKinds : List Byte :=
  [0x01, 0x02, 0x03, 0x04, 0x05, 0x06, 0x07, 0x08, 0x09, 0x0A, 0x10, 0x11, 0x12, 0x13, 0x14, 0x15, 0x20, 0x21, 0x22,
    0x28, 0x29, 0x2A, 0x2B, 0x2C, 0x30, 0x31]

/-- UNKNOWN_REQUEST: a request of no kind of Table 10-2 (R182 check 1). -/
def execUnknownRequest (s : State) : Host.Outcome State Fault Refusal :=
  .next (s.takeRequest (fun k => !requestKinds.contains k) (fun _ => true) fun t _ => t.refuse .unknown)

/-- PING: its body, of at most 32 bytes, is returned (R183). -/
def execPing (s : State) : Host.Outcome State Fault Refusal :=
  .next (s.takeRequest (· == 0x01) (fun b => decide (b.length ≤ 32)) fun t q => t.accept q.body)

/-- SHELF_STATUS: the status body, and both flags cleared after it is formed (R194). -/
def execShelfStatus (s : State) : Host.Outcome State Fault Refusal :=
  .next (s.takeRequest (· == 0x02) (exactly 0) fun t _ =>
    State.accept
      { t with silence := { t.silence with expired := false }, events := { t.events with lost := false } }
      t.statusBody)

/-- The dark count of every slot whose mask is set is 0 (R48). -/
def State.maskDark (s : State) : State :=
  s.forSlots allSlots fun i t =>
    if t.settings.darkMask.getLsbD i.val then t.modPower i fun p => { p with dark := 0 } else t

/-- The act of a SHELF_CONFIG whose length fits (R187, R29, R48). -/
def State.shelfConfig (s : State) (body : List Byte) : Answer :=
  let written := settingValues (unbe (body.take 3)) 0 settingWidths (body.drop 3)
  let v := clampSettings written
  if settingsRefused written then s.refuse .range
  else if (present v 2).any (fun b => decide (b < s.reservedSum)) then s.refuse .inUse
  else
    let s1 : State := { s with settings := s.settings.store v }
    let s2 := if (present v 9).isSome then s1.maskDark else s1
    let s3 := if s.settings.budget < s2.settings.budget then s2.callAdmission else s2
    s3.accept [] (v != written)

/-- SHELF_CONFIG (R187). -/
def execShelfConfig (s : State) : Host.Outcome State Fault Refusal :=
  .next (s.takeRequest (· == 0x03) settingsFit fun t q => t.shelfConfig q.body)

/-- The entries a TABLE_WRITE carries are stored (R185). -/
def State.tableStore (s : State) (t : Table) (start : Nat) (entries : List (List Byte)) : Answer :=
  let r := s.storeEntries t start entries
  r.1.accept [] r.2

/-- The checks of a TABLE_WRITE after its table has been found, in order, and its effect (R185). -/
def State.tableWriteTo (s : State) (t : Table) (start count : Nat) (data : List Byte) : Answer :=
  let entries := chunks t.writeSize count data
  if data.length ≠ count * t.writeSize then s.refuse .malformed
  else if count = 0 ∨ t.entries < start + count then s.refuse .range
  else if entries.any t.refuses then s.refuse .range
  else if (List.range' start count).any (s.entryInUse t) then s.refuse .inUse
  else s.tableStore t start entries

/-- The act of a TABLE_WRITE (R185; log 25 for a body shorter than its three leading bytes). -/
def State.tableWrite (s : State) (body : List Byte) : Answer :=
  match body with
  | [] => s.refuse .malformed
  | n :: rest =>
    match tableOf n, rest with
    | none, _ => s.refuse .range
    | some t, start :: count :: data => s.tableWriteTo t start.toNat count.toNat data
    | some _, _ => s.refuse .malformed

/-- TABLE_WRITE (R185). -/
def execTableWrite (s : State) : Host.Outcome State Fault Refusal :=
  .next (s.takeRequest (· == 0x04) (fun _ => true) fun t q => t.tableWrite q.body)

/-- The act of a TABLE_READ (R186; log 25 for a body shorter than its three bytes). -/
def State.tableRead (s : State) (body : List Byte) : Answer :=
  match body with
  | [] => s.refuse .malformed
  | n :: rest =>
    match tableOf n, rest with
    | none, _ => s.refuse .range
    | some t, [start, count] =>
      if count = 0 ∨ t.entries < start.toNat + count.toNat
          ∨ Config.replyBodyMax < 3 + count.toNat * t.readSize then s.refuse .range
      else s.accept (n :: start :: count :: (List.range' start.toNat count.toNat).flatMap (s.readEntry t))
    | some _, _ => s.refuse .malformed

/-- TABLE_READ (R186). -/
def execTableRead (s : State) : Host.Outcome State Fault Refusal :=
  .next (s.takeRequest (· == 0x05) (fun _ => true) fun t q => t.tableRead q.body)

/-- The nine enables of a body (R189). -/
def enablesOf (body : List Byte) : Option Enables :=
  match body.mapM flagOf with
  | some [slot, fault, grade, zone, transfer, lane, diag, snapshot, supervision] =>
    some { slot, fault, grade, zone, transfer, lane, diag, snapshot, supervision }
  | _ => none

/-- EVENT_CONFIG (R189). -/
def execEventConfig (s : State) : Host.Outcome State Fault Refusal :=
  .next (s.takeRequest (· == 0x06) (exactly 9) fun t q =>
    match enablesOf q.body with
    | some e => State.accept { t with events := { t.events with enables := e } }
    | none => t.refuse .range)

/-- The act of a SILENCE_CONFIG (R191; log 19 for a period-present byte that is neither set nor clear). -/
def State.silenceConfig (s : State) (body : List Byte) : Answer :=
  let lock := field body 3
  let written := unbe ((body.drop 1).take 2)
  let period := clampNat 1 600 written
  if s.silence.mode = .locked then s.refuse .locked
  else if lock ≠ 0 ∧ lock ≠ 1 then s.refuse .range
  else
    match flagOf (field body 0) with
    | none => s.refuse .range
    | some given =>
      let s1 : State :=
        { s with
          silence := { s.silence with
            period := if given then period else s.silence.period
            mode := if lock = 1 then .locked else s.silence.mode } }
      s1.restartSilence.accept [] (given && period != written)

/-- SILENCE_CONFIG (R191). -/
def execSilenceConfig (s : State) : Host.Outcome State Fault Refusal :=
  .next (s.takeRequest (· == 0x07) (exactly 4) fun t q => t.silenceConfig q.body)

/-- The act of SHELF_STOP (R192). -/
def State.shelfStop (s : State) : Answer :=
  let s1 : State := { s with silence := { s.silence with expired := true } }
  match s.mode with
  | .run => (s1.enterSafe.offer (.supervision .stopped)).accept
  | .safe => s1.accept

/-- SHELF_STOP (R192). -/
def execShelfStop (s : State) : Host.Outcome State Fault Refusal :=
  .next (s.takeRequest (· == 0x08) (exactly 0) fun t _ => t.shelfStop)

/-- A slot's step at the return to RUN (R193): one in BETWEEN is judged (R107), one in WAIT_GATE begins where the latest
report meets its gate and has its timer resumed otherwise (R108). -/
def State.resumeStep (s : State) (i : SlotId) : State :=
  if s.inPhase i .between then State.settleStep i (s.judgeStep i)
  else if s.inPhase i .waitGate then
    if (s.slotReport i).meets (s.slotStep i).gate then s.openGate i
    else s.modPosition i fun q => { q with timer := q.timer.thaw s.now }
  else s

/-- The duties of a zone at the return to RUN (R69, R75): a zone that runs its profile keeps its duties until its next
control period (log 22). -/
def State.resumeZone (s : State) (z : BayId) : State :=
  if (s.zone z).state.runs then s else s.setDuties z

/-- The act of SHELF_RESUME (R193). -/
def State.shelfResume (s : State) : Answer :=
  match s.mode with
  | .run => s.accept
  | .safe =>
    let s1 : State := { s with mode := .run }
    let s2 := (s1.restartSilence.offer (.supervision .resumed)).callAdmission.callPick
    let s3 := allBays.foldl State.resumeZone s2
    (s3.forSlots allSlots fun i t => t.resumeStep i).accept

/-- SHELF_RESUME (R193). -/
def execShelfResume (s : State) : Host.Outcome State Fault Refusal :=
  .next (s.takeRequest (· == 0x09) (exactly 0) fun t _ => t.shelfResume)

/-- RESTART: answered OK; the warm reset waits for the reply to be sent (R195). -/
def execRestart (s : State) : Host.Outcome State Fault Refusal :=
  .next (s.takeRequest (· == 0x0A) (exactly 0) fun t _ =>
    State.accept { t with cell := { t.cell with restart := .called } })

end Sys2Proof.Machine
end

