-- ==== Sys2Proof/Machine/SlotRequests.lean ====
section
/-! DEFINITION. The requests about slots (R18 to R24, R82, R120): SLOT_START, SLOT_ABORT, SLOT_RESTART, SLOT_QUERY,
SLOT_SNAPSHOT, DIAG_SEND. -/

namespace Sys2Proof.Machine

/-- The act of a SLOT_START (R18, R19). -/
def State.slotStart (s : State) (body : List Byte) : Answer :=
  s.withSlot (field body 0) fun i =>
    match s.startCheck i (field body 1).toNat (field body 2).toNat with
    | .ok (p, priority) => (s.startRun i p priority .started).accept
    | .error e => s.refuse e

/-- SLOT_START (R18, R19). -/
def execSlotStart (s : State) : Host.Outcome State Fault Refusal :=
  .next (s.takeRequest (· == 0x10) (exactly 3) fun t q => t.slotStart q.body)

/-- A disposition's code (Table 11-3). -/
def dispositionOf (b : Byte) : Option Disposition := [Disposition.hold, .reject][b.toNat]?

/-- The disposition written into the record (R21). -/
def State.setDisposition (s : State) (i : SlotId) (d : Disposition) : State :=
  s.modRecord i fun r => { r with disposition := some d }

/-- Where an abort sends a slot that has no rails to take off (R21): HELD for HOLD; for REJECT, already graded, by the
bin map. -/
def State.abortPlace (s : State) (i : SlotId) (d : Disposition) : State :=
  match d with
  | .hold => s.enter i .held .aborted none (some .aborted)
  | .reject => s.placeByBin i .aborted .binHold

/-- A slot graded REJECT, FORCED ABORTED where the disposition is REJECT (R21). -/
def State.gradeAborted (s : State) (i : SlotId) (d : Disposition) : State :=
  match d with
  | .reject => s.grade i (some .aborted)
  | .hold => s

/-- The abort of an ACTIVE slot (R21, R119, R32): one that is queued leaves for HELD or by the bin map, any other parks. -/
def State.abortActive (s : State) (i : SlotId) (d : Disposition) : State :=
  if (s.record i).powerPhase = some .queued then ((s.leaveAdmission i).abortRun i d).abortPlace i d
  else ((s.abortRun i d).enter i .parking .aborted).beginParking i

/-- The abort with REJECT of a HELD or FAULTED slot, already graded (R22): PARKING with power phase OFF, and the
spin-down wait from the recorded power-off time. -/
def State.abortIdle (s : State) (i : SlotId) : State :=
  ((s.modRecord i fun r => { r with powerPhase := some .off }).enter i .parking .aborted).beginSpinDown i

/-- The act of a SLOT_ABORT on a slot, by its life state (R21, R22). -/
def State.abortSlot (s : State) (i : SlotId) (d : Disposition) : Answer :=
  let s1 := s.setDisposition i d
  match (s.record i).life, d with
  | .empty, _ | .reserved, _ | .unloading, _ => s.refuse .state
  | .seated, d => ((s1.gradeAborted i d).abortPlace i d).accept
  | .active, d => (s1.abortActive i d).accept
  | .parking, d => (s1.gradeAborted i d).accept
  | .dispatch, d =>
    if s.isOffered i then s.refuse .inUse
    else (((s1.gradeAborted i d).leaveDispatch i).enter i .held .aborted none (some .aborted)).accept
  | .held, .hold | .faulted, .hold => s.refuse .state
  | .held, .reject | .faulted, .reject => ((s1.gradeAborted i .reject).abortIdle i).accept

/-- SLOT_ABORT (R21): the slot checked first, then the disposition. -/
def execSlotAbort (s : State) : Host.Outcome State Fault Refusal :=
  .next (s.takeRequest (· == 0x11) (exactly 2) fun t q =>
    t.withSlot (field q.body 0) fun i =>
      match dispositionOf (field q.body 1) with
      | some d => t.abortSlot i d
      | none => t.refuse .range)

/-- SLOT_RESTART (R23): a HELD or FAULTED slot is SEATED with a fresh record, and autostart is considered. -/
def execSlotRestart (s : State) : Host.Outcome State Fault Refusal :=
  .next (s.takeRequest (· == 0x12) (exactly 1) fun t q =>
    t.withSlot (field q.body 0) fun i =>
      if (t.record i).life = .held ∨ (t.record i).life = .faulted then
        ((t.enterFresh i .seated .restarted).considerAutostart i).accept
      else t.refuse .state)

/-- SLOT_QUERY (R24). -/
def execSlotQuery (s : State) : Host.Outcome State Fault Refusal :=
  .next (s.takeRequest (· == 0x13) (exactly 1) fun t q =>
    t.withSlot (field q.body 0) fun i => t.accept (slotQueryBody t.now i (t.record i)))

/-- SLOT_SNAPSHOT (R120). -/
def execSlotSnapshot (s : State) : Host.Outcome State Fault Refusal :=
  .next (s.takeRequest (· == 0x14) (exactly 1) fun t q =>
    t.withSlot (field q.body 0) fun i =>
      if (t.record i).life ≠ .active then t.refuse .state
      else if (t.record i).snapshot then t.refuse .inUse
      else (t.modRecord i fun r => { r with snapshot := true }).accept)

/-- The general places of the slot's outbound queue are all taken (4.2, R82). -/
def State.generalFull (s : State) (i : SlotId) : Bool :=
  decide (Config.generalPlaces ≤ ((s.slotBus i).queue.filter fun f => !f.reserved).length)

/-- A drive kind that DIAG_SEND refuses (R82 check 3): one of the part's own outbound kinds, or 0x80 or above. -/
def kindReserved (kind : Byte) : Bool := decide (1 ≤ kind.toNat ∧ kind.toNat ≤ 6) || kind.msb

/-- The act of a DIAG_SEND, its checks in the order of R82 (log 25 for a body of less than two bytes). -/
def State.diagSend (s : State) (q : Request) : Answer :=
  match q.body with
  | [] => s.refuse .malformed
  | slot :: rest =>
    s.withSlot slot fun i =>
      match rest with
      | [] => s.refuse .malformed
      | kind :: data =>
        if 60 < data.length then s.refuse .malformed
        else if kindReserved kind then s.refuse .range
        else if !s.powered i then s.refuse .state
        else if s.generalFull i then s.refuse .full
        else (s.pushFrame i (.raw kind data q.tag)).accept

/-- DIAG_SEND (R82). -/
def execDiagSend (s : State) : Host.Outcome State Fault Refusal :=
  .next (s.takeRequest (· == 0x15) (fun _ => true) fun t q => t.diagSend q)

end Sys2Proof.Machine
end

