-- ==== Sys2Proof/Machine/StepEvents.lean ====
section
/-! DEFINITION. The timers of steps and runs (R108, R111, R113, R117, R126, R129): GATE_WAIT_EXPIRY, DRIVE_TIMEOUT,
DWELL_EXPIRY, CYCLE_OFF_EXPIRY, CYCLE_ON_EXPIRY, SPIN_DOWN_EXPIRY. -/

namespace Sys2Proof.Machine

/-- The end of a step timer: where it runs and the step is where the timer counts, shelf time reaches its instant, the
timer is no longer running, and the step acts. Elsewhere nothing happens (log 4). -/
def State.timerEnds (s : State) (i : SlotId) (counts : Bool) (act : State → State) : State :=
  match s.stepDeadline i with
  | some d => if counts then (act ((s.reach d).stopTimer i)).finish else s
  | none => s

/-- GATE_WAIT_EXPIRY: the step ends FAILED, reason GATE (R108). -/
def execGateWaitExpiry (i : SlotId) (s : State) : Host.Outcome State Fault Refusal :=
  .next (s.timerEnds i (s.inPhase i .waitGate) fun t => t.endStep i (.failed .gate))

/-- DRIVE_TIMEOUT: STOP_TEST is handed over and the step ends FAILED, reason TIMEOUT (R111). -/
def execDriveTimeout (i : SlotId) (s : State) : Host.Outcome State Fault Refusal :=
  .next (s.timerEnds i (s.driveRunning i) fun t => (t.handOver i .stopTest).endStep i (.failed .timeout))

/-- A DWELL step of the slot is RUNNING (R113). -/
def State.dwellRunning (s : State) (i : SlotId) : Bool :=
  s.inPhase i .running && (s.slotStep i).kind == .dwell

/-- DWELL_EXPIRY: the step ends PASSED (R113). -/
def execDwellExpiry (i : SlotId) (s : State) : Host.Outcome State Fault Refusal :=
  .next (s.timerEnds i (s.dwellRunning i) fun t => t.endStep i .passed)

/-- CYCLE_OFF_EXPIRY: the step enters CYCLE_ADMIT and joins the admission queue (R126). -/
def execCycleOffExpiry (i : SlotId) (s : State) : Host.Outcome State Fault Refusal :=
  .next (s.timerEnds i (s.inPhase i .cycleOff) fun t => (t.setPhase i .cycleAdmit .none).joinAdmission i .cycle)

/-- The end of a cycle's on time (R129): the next cycle goes off, or the step ends PASSED. -/
def State.cycleDone (s : State) (i : SlotId) : State :=
  match (s.record i).position with
  | some q =>
    if q.cycleNumber < q.cycleCount then
      (s.modPosition i fun q => { q with cycleNumber := q.cycleNumber + 1 }).goOff i
    else s.endStep i .passed
  | none => s

/-- CYCLE_ON_EXPIRY: the on time of a cycle runs out (R129). -/
def execCycleOnExpiry (i : SlotId) (s : State) : Host.Outcome State Fault Refusal :=
  .next (s.timerEnds i (s.inPhase i .cycleOn) fun t => t.cycleDone i)

/-- SPIN_DOWN_EXPIRY: the spin-down wait of a slot runs out (R117, R15). -/
def execSpinDownExpiry (i : SlotId) (s : State) : Host.Outcome State Fault Refusal :=
  match (s.run i).spinDown with
  | some d => .next (((s.reach d).modRun i fun r => { r with spinDown := none }).spunDown i).finish
  | none => .next s

end Sys2Proof.Machine
end

