-- ==== Sys2Proof/Machine/ZonePeriods.lean ====
section
/-! DEFINITION. The control periods of the zones (R53, R64): CONTROL_PERIOD, HOLD_EXPIRY. -/

namespace Sys2Proof.Machine

/-- The zone's next control period, at the instant it is due (R53). -/
def State.nextPeriod (s : State) (z : BayId) (r : ZoneReads) : State :=
  ((s.reach (s.zone z).periodDue).periodNow z r).finish

/-- CONTROL_PERIOD: a zone makes its control period (R53). -/
def execControlPeriod (z : BayId) (r : ZoneReads) (s : State) : Host.Outcome State Fault Refusal :=
  .next (s.nextPeriod z r)

/-- The zone's hold timer expires in its next control period (R64): HOLD in RUN, with its last period to make. -/
def State.holdExpires (s : State) (z : BayId) : Bool :=
  let x := s.zone z
  s.mode == .run && x.state == .hold && x.position.any fun p => decide (p.holdLeft ≤ 1)

/-- HOLD_EXPIRY: the control period in which a zone's hold timer expires (R64; log 7). -/
def execHoldExpiry (z : BayId) (r : ZoneReads) (s : State) : Host.Outcome State Fault Refusal :=
  .next (if s.holdExpires z then s.nextPeriod z r else s)

end Sys2Proof.Machine
end

