-- ==== Sys2Proof/Machine/ZoneRequests.lean ====
section
/-! DEFINITION. The requests about zones (R62, R65, R73): ZONE_START, ZONE_STOP, ZONE_CLEAR. -/

namespace Sys2Proof.Machine

/-- The temperature a ZONE_START starts from (R62 step 2): the latest control period's; before the first one, a free
value (log 10). -/
def State.startTemperature (s : State) (z : BayId) : Int :=
  ((s.zone z).temperature).getD (Config.unreadTemperature z.val s.now)

/-- The act of a ZONE_START on a zone (R62). -/
def State.zoneStart (s : State) (z : BayId) : Answer :=
  let x := s.zone z
  match x.state with
  | .off | .cool =>
    if x.active.segmentCount = 0 then s.refuse .state
    else
      (s.moveZone z (fun x => x.enterSegment 0 1 (60 * s.startTemperature z)) .started).accept
  | .ramp | .hold | .sensorFault | .shutdown => s.refuse .state

/-- ZONE_START (R62). -/
def execZoneStart (s : State) : Host.Outcome State Fault Refusal :=
  .next (s.takeRequest (· == 0x20) (exactly 1) fun t q => t.withZone (field q.body 0) t.zoneStart)

/-- The act of a ZONE_STOP on a zone (R65, R57). -/
def State.zoneStop (s : State) (z : BayId) : Answer :=
  match (s.zone z).state with
  | .shutdown => s.refuse .state
  | .ramp | .hold | .off =>
    (s.moveZone z (fun x => { x.discard with state := .cool }) .stopped).accept
  | .cool => (s.modZone z Zone.discard).accept
  | .sensorFault => (s.modZone z fun x => { x.discard with left := .cool }).accept

/-- ZONE_STOP (R65). -/
def execZoneStop (s : State) : Host.Outcome State Fault Refusal :=
  .next (s.takeRequest (· == 0x21) (exactly 1) fun t q => t.withZone (field q.body 0) t.zoneStop)

/-- The act of a ZONE_CLEAR on a zone (R73). -/
def State.zoneClear (s : State) (z : BayId) : Answer :=
  let x := s.zone z
  match x.state, x.temperature with
  | .shutdown, some t =>
    if t < (x.param.highLimit : Int) then
      (s.moveZone z (fun x => { x with state := .off }) .cleared).accept
    else s.refuse .state
  | _, _ => s.refuse .state

/-- ZONE_CLEAR (R73). -/
def execZoneClear (s : State) : Host.Outcome State Fault Refusal :=
  .next (s.takeRequest (· == 0x22) (exactly 1) fun t q => t.withZone (field q.body 0) t.zoneClear)

end Sys2Proof.Machine
end

