-- ==== Sys2Proof/Machine/Dispatch.lean ====
section
/-! DEFINITION. The meaning of each command, one arm per constructor of Instr, in the order of the opcode table. -/

namespace Sys2Proof.Machine

def exec (i : Instr) (s : State) : Host.Outcome State Fault Refusal :=
  match i with
  | .powerOnReset reads => Sys2Proof.Machine.execPowerOnReset reads s
  | .warmReset cause reads => Sys2Proof.Machine.execWarmReset cause reads s
  | .cellFrameReceived bytes => Sys2Proof.Machine.execCellFrameReceived bytes s
  | .frameGapTimeout link => Sys2Proof.Machine.execFrameGapTimeout link s
  | .outboundFrameSent => Sys2Proof.Machine.execOutboundFrameSent s
  | .unknownRequest => Sys2Proof.Machine.execUnknownRequest s
  | .ping => Sys2Proof.Machine.execPing s
  | .shelfStatus => Sys2Proof.Machine.execShelfStatus s
  | .shelfConfig => Sys2Proof.Machine.execShelfConfig s
  | .tableWrite => Sys2Proof.Machine.execTableWrite s
  | .tableRead => Sys2Proof.Machine.execTableRead s
  | .eventConfig => Sys2Proof.Machine.execEventConfig s
  | .silenceConfig => Sys2Proof.Machine.execSilenceConfig s
  | .shelfStop => Sys2Proof.Machine.execShelfStop s
  | .shelfResume => Sys2Proof.Machine.execShelfResume s
  | .restart => Sys2Proof.Machine.execRestart s
  | .silenceExpired => Sys2Proof.Machine.execSilenceExpired s
  | .slotStart => Sys2Proof.Machine.execSlotStart s
  | .slotAbort => Sys2Proof.Machine.execSlotAbort s
  | .slotRestart => Sys2Proof.Machine.execSlotRestart s
  | .slotQuery => Sys2Proof.Machine.execSlotQuery s
  | .slotSnapshot => Sys2Proof.Machine.execSlotSnapshot s
  | .diagSend => Sys2Proof.Machine.execDiagSend s
  | .zoneStart => Sys2Proof.Machine.execZoneStart s
  | .zoneStop => Sys2Proof.Machine.execZoneStop s
  | .zoneClear => Sys2Proof.Machine.execZoneClear s
  | .dispatchEnable => Sys2Proof.Machine.execDispatchEnable s
  | .dispatchWithdraw => Sys2Proof.Machine.execDispatchWithdraw s
  | .laneOpen => Sys2Proof.Machine.execLaneOpen s
  | .laneClose => Sys2Proof.Machine.execLaneClose s
  | .manifestTake => Sys2Proof.Machine.execManifestTake s
  | .handlerResume => Sys2Proof.Machine.execHandlerResume s
  | .transferConfirm => Sys2Proof.Machine.execTransferConfirm s
  | .rawSwitchChange slot level => Sys2Proof.Machine.execRawSwitchChange slot level s
  | .presenceTaken slot => Sys2Proof.Machine.execPresenceTaken slot s
  | .readyLineChange slot level => Sys2Proof.Machine.execReadyLineChange slot level s
  | .spinupTimeout slot => Sys2Proof.Machine.execSpinupTimeout slot s
  | .readyGuardExpiry slot => Sys2Proof.Machine.execReadyGuardExpiry slot s
  | .currentSample slot raw12 raw5 => Sys2Proof.Machine.execCurrentSample slot raw12 raw5 s
  | .controlPeriod zone reads => Sys2Proof.Machine.execControlPeriod zone reads s
  | .holdExpiry zone reads => Sys2Proof.Machine.execHoldExpiry zone reads s
  | .windowGrant bus => Sys2Proof.Machine.execWindowGrant bus s
  | .driveFrameSent bus => Sys2Proof.Machine.execDriveFrameSent bus s
  | .driveReplyReceived bus chars => Sys2Proof.Machine.execDriveReplyReceived bus chars s
  | .replyWaitExpiry bus => Sys2Proof.Machine.execReplyWaitExpiry bus s
  | .replyGapTimeout bus => Sys2Proof.Machine.execReplyGapTimeout bus s
  | .pollClockExpiry slot => Sys2Proof.Machine.execPollClockExpiry slot s
  | .gateWaitExpiry slot => Sys2Proof.Machine.execGateWaitExpiry slot s
  | .driveTimeout slot => Sys2Proof.Machine.execDriveTimeout slot s
  | .dwellExpiry slot => Sys2Proof.Machine.execDwellExpiry slot s
  | .cycleOffExpiry slot => Sys2Proof.Machine.execCycleOffExpiry slot s
  | .cycleOnExpiry slot => Sys2Proof.Machine.execCycleOnExpiry slot s
  | .spinDownExpiry slot => Sys2Proof.Machine.execSpinDownExpiry slot s
  | .seatRequest tag slot => Sys2Proof.Machine.execSeatRequest tag slot s
  | .seatDone tag slot => Sys2Proof.Machine.execSeatDone tag slot s
  | .handlerTaken tag slot => Sys2Proof.Machine.execHandlerTaken tag slot s
  | .handlerRefused tag slot reason => Sys2Proof.Machine.execHandlerRefused tag slot reason s
  | .handlerDone tag slot => Sys2Proof.Machine.execHandlerDone tag slot s
  | .handlerFailed tag slot reason => Sys2Proof.Machine.execHandlerFailed tag slot reason s
  | .toteIn tag lane => Sys2Proof.Machine.execToteIn tag lane s
  | .toteOut tag lane => Sys2Proof.Machine.execToteOut tag lane s
  | .handlerFrameMalformed bytes => Sys2Proof.Machine.execHandlerFrameMalformed bytes s
  | .offerTimeout => Sys2Proof.Machine.execOfferTimeout s
  | .carryTimeout => Sys2Proof.Machine.execCarryTimeout s
  | .seatDoneWaitExpiry => Sys2Proof.Machine.execSeatDoneWaitExpiry s
  | .handlerFrameSent => Sys2Proof.Machine.execHandlerFrameSent s
  | .replyBrokenByMarkByte bus chars => Sys2Proof.Machine.execReplyBrokenByMarkByte bus chars s

end Sys2Proof.Machine
end

