-- ==== Sys2Proof/Safety.lean ====
section
/-! DEFINITION. What claims speak of: a request standing at the head of the input queue and its reply, slots and zones
after a change, and the conditions every reachable state of the part meets. -/

namespace Sys2Proof.Machine

/-! ### Requests -/

/-- The port can take request q, of the kind named, and rest stands behind it (R182). -/
def State.Heads (s : State) (kind : Byte) (q : Request) (rest : List Request) : Prop :=
  s.portReady = true ∧ s.cell.input = q :: rest ∧ q.kind = kind

/-- Request q has left the input queue and its reply is formed; nothing else has changed (R182, R183). -/
def State.answered (s : State) (q : Request) (rest : List Request) (status : Status) (body : List Byte := [])
    (adjusted : Bool := false) : State :=
  { s with
    cell := { s.cell with
      input := rest, reply := some { kind := q.kind, tag := q.tag, status, adjusted, body } } }

/-- The kind of request a command takes; none for UNKNOWN_REQUEST and for a command that is no request (Table 11-3). -/
def requestKind : Instr → Option Byte
  | .ping => some 0x01
  | .shelfStatus => some 0x02
  | .shelfConfig => some 0x03
  | .tableWrite => some 0x04
  | .tableRead => some 0x05
  | .eventConfig => some 0x06
  | .silenceConfig => some 0x07
  | .shelfStop => some 0x08
  | .shelfResume => some 0x09
  | .restart => some 0x0A
  | .slotStart => some 0x10
  | .slotAbort => some 0x11
  | .slotRestart => some 0x12
  | .slotQuery => some 0x13
  | .slotSnapshot => some 0x14
  | .diagSend => some 0x15
  | .zoneStart => some 0x20
  | .zoneStop => some 0x21
  | .zoneClear => some 0x22
  | .dispatchEnable => some 0x28
  | .dispatchWithdraw => some 0x29
  | .laneOpen => some 0x2A
  | .laneClose => some 0x2B
  | .manifestTake => some 0x2C
  | .handlerResume => some 0x30
  | .transferConfirm => some 0x31
  | .unknownRequest | .powerOnReset _ | .warmReset _ _ | .cellFrameReceived _ | .frameGapTimeout _
  | .outboundFrameSent | .silenceExpired | .rawSwitchChange _ _ | .presenceTaken _ | .readyLineChange _ _
  | .spinupTimeout _ | .readyGuardExpiry _ | .currentSample _ _ _ | .controlPeriod _ _ | .holdExpiry _ _
  | .windowGrant _ | .driveFrameSent _ | .driveReplyReceived _ _ | .replyWaitExpiry _ | .replyGapTimeout _
  | .pollClockExpiry _ | .gateWaitExpiry _ | .driveTimeout _ | .dwellExpiry _ | .cycleOffExpiry _
  | .cycleOnExpiry _ | .spinDownExpiry _ | .seatRequest _ _ | .seatDone _ _ | .handlerTaken _ _
  | .handlerRefused _ _ _ | .handlerDone _ _ | .handlerFailed _ _ _ | .toteIn _ _ | .toteOut _ _
  | .handlerFrameMalformed _ | .offerTimeout | .carryTimeout | .seatDoneWaitExpiry | .handlerFrameSent
  | .replyBrokenByMarkByte _ _ => none

/-- The command takes a request of a kind (R182 checks 1 and 3). -/
def takesKind (c : Instr) (kind : Byte) : Bool :=
  c == .unknownRequest && !requestKinds.contains kind || requestKind c == some kind

/-- The command is the taking of a request. -/
def isRequest (c : Instr) : Bool := c == .unknownRequest || (requestKind c).isSome

/-- The body length of a request whose length is fixed and checked before its rule's own checks (R198, 11.3); none for
PING and SHELF_CONFIG, whose lengths vary, and for DIAG_SEND, TABLE_WRITE and TABLE_READ, whose rules place the check. -/
def fixedLength (kind : Byte) : Option Nat :=
  if kind ∈ [0x02, 0x08, 0x09, 0x0A, 0x30] then some 0
  else if kind ∈ [0x12, 0x13, 0x14, 0x20, 0x21, 0x22, 0x28, 0x29, 0x2A, 0x2B, 0x2C, 0x31] then some 1
  else if kind = 0x11 then some 2
  else if kind = 0x10 then some 3
  else if kind = 0x07 then some 4
  else if kind = 0x06 then some 9
  else none

/-- No admission run and no pick selection is called for, and the Handler Link has no frame waiting for a free line. -/
def State.AtRest (s : State) : Prop :=
  s.admissionDue = false ∧ s.pickDue = false ∧ (s.handler.line = none → s.handler.out = [])

/-- The Cell Link's line has nothing it could begin (R184, R195). -/
def State.LineAtRest (s : State) : Prop :=
  s.cell.line = none → s.cell.restart = .due ∨
    (s.cell.refusals = [] ∧ s.cell.reply = none ∧ (s.cell.restart = .called ∨ s.events.queue = []))

/-- The event port has only been offered events, in some order. -/
def EventPort.OfferedTo (p q : EventPort) : Prop := ∃ l : List Event, q = l.foldl EventPort.offer p

/-- The event's class is enabled (Table 10-5, R188). -/
def EventPort.takes (p : EventPort) : Event → Bool
  | .slot .. | .step .. => p.enables.slot
  | .overcurrent .. | .dark .. | .noSpin .. => p.enables.fault
  | .graded .. => p.enables.grade
  | .zone .. => p.enables.zone
  | .transfer .. => p.enables.transfer
  | .lane .. | .manifestFull .. => p.enables.lane
  | .diagReply .. | .diagEnd .. | .linkLost .. | .linkOk .. => p.enables.diag
  | .snapshot .. | .snapshotNoStep .. => p.enables.snapshot
  | .supervision .. => p.enables.supervision

/-! ### Layouts of the replies (Tables 11-7, 11-8, 11-12) -/

/-- A body holds fields, each an offset, a width and a number, most significant byte first (Table 11-1). -/
def Body.Holds (body : List Byte) (fields : List (Nat × Nat × Nat)) : Prop :=
  ∀ f ∈ fields, (body.drop f.1).take f.2.1 = be f.2.1 f.2.2

/-- The 20 bytes of an identity's serial number: left-aligned, the unused bytes and those of an absent one 0. -/
def serialField (d : Option Identity) : List Byte :=
  (((d.map Identity.serial).getD []) ++ List.replicate 20 0).take 20

/-- The numbers of a grade's reason and of its detail (Table 11-7). -/
def GradeReason.numbers : GradeReason → Nat × Nat
  | .scored => (0, 0)
  | .limit metric => (1, metric.val)
  | .noId => (2, 0)
  | .absent => (3, 0)
  | .noGrade => (4, 0)
  | .forced .noSpin => (5, 0)
  | .forced .dark => (5, 1)
  | .forced .step => (5, 2)
  | .forced .aborted => (5, 3)

/-- The numbers of a step's outcome and of its reason (Table 11-7). -/
def StepOutcome.numbers : StepOutcome → Nat × Nat
  | .passed => (0, 0)
  | .skipped => (2, 0)
  | .failed .drive => (1, 1)
  | .failed .timeout => (1, 2)
  | .failed .link => (1, 3)
  | .failed .gate => (1, 4)
  | .failed .aborted => (1, 5)
  | .failed .power => (1, 6)
  | .failed .thermal => (1, 7)

/-- The numbers of a stall's cause and of the handler's reason (Table 11-12). -/
def StallCause.numbers : StallCause → Nat × Nat
  | .refused reason => (0, reason.toNat)
  | .noAnswer => (1, 0)

/-! ### Frames of the handler (Table 11-9) -/

/-- The body length of a handler kind; none for a kind that is not one of the eight. -/
def handlerLength (kind : Byte) : Option Nat :=
  if kind ∈ [0x40, 0x41, 0x42, 0x44, 0x46, 0x47] then some 1
  else if kind ∈ [0x43, 0x45] then some 2
  else none

/-- The frame is malformed: of another kind than the eight, or with a body of another length (R199). -/
def Request.malformed (q : Request) : Prop := handlerLength q.kind ≠ some q.body.length

/-! ### Drive replies (Table 11-10) -/

/-- The bytes of a drive's reply frame: its address with the top bit set, its kind with the continues flag, its length,
its body, its CRC-8. -/
def driveReplyBytes (p : Position) (kind : Byte) (continues : Bool) (body : List Byte) : List Byte :=
  let l := (0x80 ||| byte p.val) :: (kind ||| (if continues then 0x80 else 0)) :: byte body.length :: body
  l ++ [crc8 l]

/-- The characters of a drive's reply frame: the address byte alone carries the mark. -/
def driveReplyChars (p : Position) (kind : Byte) (continues : Bool) (body : List Byte) : List BusChar :=
  match driveReplyBytes p kind continues body with
  | [] => []
  | a :: l => (0x100 ||| a.zeroExtend 9) :: l.map (·.zeroExtend 9)

/-! ### Slots -/

/-- A slot whose life state has changed, with the parts tied to it (R3, R5). -/
def Slot.become (x : Slot) (entered : LifeState) (fault : Option FaultCause := none) (hold : Option HoldReason := none) :
    Slot :=
  { x with
    record := { x.record with
      life := entered, fault, hold
      powerPhase := if entered = .active ∨ entered = .parking then x.record.powerPhase else none }
    power := if entered = .active ∨ entered = .parking then x.power else { x.power with amounts := none }
    run := if entered = .active ∨ entered = .parking then x.run else .idle }

/-- A slot whose record has been made fresh in a life state other than ACTIVE and PARKING (R2). -/
def Slot.freshAs (x : Slot) (entered : LifeState) (fault : Option FaultCause := none) : Slot :=
  { x with
    record := { SlotRecord.fresh entered x.record.presence with fault }
    power := { x.power with amounts := none }
    run := .idle }

/-- A slot after a grading, by the tables given (R143). -/
def Slot.gradedBy (x : Slot) (s : State) (forced : Option ForcedCause) : Slot :=
  { x with
    record := { x.record with
      metrics := x.record.metrics.graded
      grade := some (gradeOf s.metricTable s.gradeTable x.record forced) } }

/-- The GRADED event of a grading of slot i as it stands (R146). -/
def State.gradedEvent (s : State) (i : SlotId) (forced : Option ForcedCause) : Event :=
  .graded i (s.record i).plan (gradeOf s.metricTable s.gradeTable (s.record i) forced) (s.record i).grade.isSome

/-- The vector with slot i replaced. -/
def State.slotsWith (s : State) (i : SlotId) (x : Slot) : Vector Slot 24 := s.slots.set i.val x

/-- The entry of slot i in the dispatch queue, not offered, for a bin (R156). -/
def dispatchEntry (i : SlotId) (bin : BinId) : DispatchEntry := { slot := i, bin, offered := false }

/-- Slot i with the contents given goes where the bin map sends the bin of its grade (R150): to DISPATCH, at the tail of
the dispatch queue, a pick selection called for; or to HELD with the reason given. One SLOT event (R5). -/
def State.placed (s : State) (i : SlotId) (x : Slot) (cause : SlotCause) (reason : HoldReason) : State :=
  match x.record.grade.map fun g => (g.bin, s.destination g.bin) with
  | some (bin, .lane _) =>
    { s with
      slots := s.slotsWith i (x.become .dispatch)
      dispatch := { s.dispatch with queue := s.dispatch.queue ++ [dispatchEntry i bin] }
      events := s.events.offer (.slot i x.record.life .dispatch cause)
      pickDue := true }
  | _ =>
    { s with
      slots := s.slotsWith i (x.become .held none (some reason))
      events := s.events.offer (.slot i x.record.life .held cause) }

/-- The transfer record takes a new state with its timer, and its TRANSFER event is offered, naming the transfer (R165,
R166); a record that leaves IDLE drops the closed-seat slot, and one that becomes IDLE calls for a pick selection. -/
def State.moved (s : State) (entered : Transfer) (timer : Option Nat) (cause : TransferCause) : State :=
  let left := s.handler.transfer
  let named := if entered = .idle then left else entered
  { s with
    handler := { s.handler with
      transfer := entered, timer, closedSeat := if left = .idle then none else s.handler.closedSeat }
    events := s.events.offer (.transfer named.kind named.slot named.lane left.state entered.state cause)
    pickDue := s.pickDue || decide (entered = .idle) }

/-- An answer or frame to the handler is formed, its message's frame being complete (R167, R180, R199). -/
def State.tells (s : State) (f : HandlerFrame) : State :=
  { s with handler := { s.handler with rx := .hunting, out := s.handler.out ++ [f] } }

/-- A drive delivered from slot i to lane l is booked (R162 steps 1 and 2): the count raised, the lane FULL where that
brings an OPEN lane to its capacity, the record appended with the next number, MANIFEST_FULL where it is the 48th. -/
def State.booked (s : State) (i : SlotId) (l : LaneId) (confirmed : Bool) : State :=
  let x := s.lane l
  let full := x.state = .open ∧ x.capacity ≤ x.count + 1
  let y : Lane := { x with count := x.count + 1, state := if full then .full else x.state }
  let g := (s.record i).grade.getD { bin := binReject, score := 0, reason := .noGrade }
  let m : ManifestRecord :=
    { number := s.dispatch.nextRecord, slot := i, identity := (s.record i).identity, bin := g.bin, score := g.score
      reason := g.reason, lane := l, toteSequence := x.toteSequence, place := x.count + 1, confirmed }
  let e1 := if full then s.events.offer (.lane l .full .open y) else s.events
  { s with
    lanes := s.lanes.set l.val y
    dispatch := { s.dispatch with
      manifest := s.dispatch.manifest ++ [m]
      nextRecord := if 4294967295 ≤ s.dispatch.nextRecord then 1 else s.dispatch.nextRecord + 1 }
    events := if s.dispatch.manifest.length = 47 then e1.offer (.manifestFull 48) else e1 }

/-- A slot leaves UNLOADING for EMPTY with a fresh record, or for FAULTED, cause SEAT, where a drive is seen in it (R17,
R9). -/
def State.left (s : State) (i : SlotId) (cause : SlotCause) : State :=
  if (s.record i).presence = .present then
    { s with
      slots := s.slotsWith i ((s.slot i).freshAs .faulted (some .seat))
      events := s.events.offer (.slot i (s.record i).life .faulted .seatFault) }
  else
    { s with
      slots := s.slotsWith i ((s.slot i).freshAs .empty)
      events := s.events.offer (.slot i (s.record i).life .empty cause) }

/-- A run started for slot i, with the contents given (R19, R28, R31, R137): ACTIVE and QUEUED, its admission entry at the
tail of its level, an admission run called for. -/
def State.started (s : State) (i : SlotId) (x : Slot) (p : PlanId) (priority : Fin 4) (cause : SlotCause) : State :=
  let h := s.planHead p
  { s with
    slots := s.slotsWith i
      { x with
        record := { x.record with
          life := .active, plan := some p, priority := some priority, powerPhase := some .queued, fault := none
          hold := none, metrics := { x.record.metrics with link := some 0, pcyc := some 0 } }
        power := { x.power with amounts := some { surge := h.surge, running := h.running } }
        run := { RunContext.idle with stage := .powerWait } }
    events := s.events.offer (.slot i x.record.life .active cause)
    admission := s.admission.set priority.val
      (s.admission[priority.val] ++ [{ slot := i, priority, surge := h.surge, kind := .initial }])
    admissionDue := true }

/-- A run of plan p can start in slot i, its life state apart (R18 checks 3 and 4). -/
def State.canRun (s : State) (i : SlotId) (p : PlanId) : Prop :=
  (s.planHead p).stepCount ≠ 0 ∧ (s.zone (bayOf i)).state ≠ .shutdown

/-- Slot i has just become SEATED with the contents given, from a life state, and autostart is considered (R8, R20, R23):
in RUN, with a plan named that can run, its run starts at priority 1. -/
def State.seatedNow (s : State) (i : SlotId) (x : Slot) (left : LifeState) (cause : SlotCause) (t : State) : Prop :=
  let s1 : State := { s with slots := s.slotsWith i x, events := s.events.offer (.slot i left .seated cause) }
  (∀ p, s.mode = .run → s.settings.autostart = some p → s.canRun i p → t = s1.started i x p 1 .autostarted) ∧
  (s.mode = .safe ∨ s.settings.autostart = none ∨ (∃ p, s.settings.autostart = some p ∧ ¬ s.canRun i p) → t = s1)

/-- A slot admitted by its entry at an instant (R34): its surge amount reserved, the rails on, SPINUP with its timer and
the capture armed, the counters at 0 and the first sample due 10 ms later; a cycling slot enters CYCLE_ON. -/
def Slot.admittedBy (x : Slot) (e : AdmissionEntry) (now spinupTimeout : Nat) : Slot :=
  { x with
    record := { x.record with
      reserved := e.surge, powerOnAt := some now, powerPhase := some .spinup
      position :=
        if e.kind = .cycle then x.record.position.map fun q => { q with phase := .cycleOn, timer := .none }
        else x.record.position }
    power := { x.power with
      rails := true, guard := none, over12 := 0, over5 := 0, dark := 0, sampleDue := some (now + 10)
      spinup := some
        { kind := e.kind, deadline := now + spinupTimeout * 1000, startLevel := x.ready, fallNoted := false } } }

/-- Entry e of level l admitted, rest standing behind it (R34). -/
def State.admitted (s : State) (l : Fin 4) (e : AdmissionEntry) (rest : List AdmissionEntry) : State :=
  { s with
    admission := s.admission.set l.val rest
    slots := s.slotsWith e.slot ((s.slot e.slot).admittedBy e s.now s.settings.spinupTimeout) }

/-- A slot whose spin-up, powered on at an instant, is captured now (R40 steps 1 to 4, R84): the reservation drops to the
running amount, SPIN takes the larger value, at most 60000 ms (log 34), the phase is ON, and the ready guard and the
poll clock start. -/
def Slot.capturedNow (x : Slot) (running now powerOnAt readyGuard : Nat) : Slot :=
  { x with
    ready := true
    record := { x.record with
      reserved := running, powerPhase := some .on
      metrics := { x.record.metrics with
        spin := some (max (x.record.metrics.spin.getD 0) (min 60000 (now - powerOnAt))) } }
    power := { x.power with spinup := none, guard := some (now + readyGuard) }
    bus := { x.bus with poll := .running now } }

/-- A slot whose step k enters BETWEEN, with a cycle number and count (R107). -/
def Slot.between (x : Slot) (k cycleNumber cycleCount : Nat) : Slot :=
  { x with
    record := { x.record with
      position := some { index := k, phase := .between, timer := .none, cycleNumber, cycleCount } }
    run := { x.run with stage := .steps } }

/-- A slot's outbound queue after a message has been handed over (R81): it takes the position of a message still queued;
else it joins the tail, a CONTINUE in the reserved place having left. -/
def handedOver (queue : List QueuedFrame) (m : Message) : List QueuedFrame :=
  if queue.any fun f => f.message?.isSome then queue.map fun f => if f.message?.isSome then .message m else f
  else (queue.filter fun f => !f.reserved) ++ [.message m]

/-- At most one frame of the queue holds the reserved place (R80). -/
def OneReserved (queue : List QueuedFrame) : Prop := (queue.filter fun f => f.reserved).length ≤ 1

/-- A slot's window after a message has been handed over to its queue (R81): where the frame in flight held the reserved
place it has left the queue, and its reply will be judged for the link alone. -/
def Window.displaced (w : Window) (queue : List QueuedFrame) : Window :=
  { w with
    removed := w.removed || (w.stage != .deciding && queue.any fun f => f.reserved && w.frame == .queued f) }

/-- y is slot i after its step, in BETWEEN in s, has been judged (R107 to R109, R113, R123 to R125). In SAFE nothing
happens. A gated step is SKIPPED under a report of OFF or COOL, and waits under any other report that does not meet its
gate. One that begins is RUNNING with its duration (DWELL); in CYCLE_OFF at cycle 1, its rails off and its off timer
running, or PARK handed over (R81) or deferred first (CYCLE); failed LINK on a LOST link, else STARTING with RUN_TEST handed
over, or deferred behind the message outstanding (DRIVE). -/
def State.StepJudged (s : State) (i : SlotId) (y : Slot) : Prop :=
  let x := s.slot i
  let e := s.slotStep i
  let report := s.slotReport i
  let stands := fun f : StepPosition → StepPosition =>
    ({ x with record := { x.record with position := x.record.position.map f } } : Slot)
  let ended := fun o : StepOutcome =>
    (x.record.outcomes ++ [{ index := s.stepIndex i, outcome := o }]) <+: y.record.outcomes
  let begins := s.mode = .run ∧ (e.gate = .none ∨ report.meets e.gate = true)
  let parksFirst := (s.slotHead i).parkBeforeCycle = true ∧ x.record.link = .ok
  (s.mode = .safe → y = x) ∧
  (s.mode = .run → e.gate ≠ .none → report.state = .off ∨ report.state = .cool → ended .skipped) ∧
  (s.mode = .run → report.meets e.gate = false → report.state ≠ .off → report.state ≠ .cool →
    y = stands fun p =>
      { p with
        phase := .waitGate, timer := if e.gateWait = 0 then .none else .running (s.now + e.gateWait * 60 * 1000) }) ∧
  (begins → e.kind = .dwell →
    y = stands fun p => { p with phase := .running, timer := .running (s.now + e.duration * 1000) }) ∧
  (begins → e.kind = .cycle → ¬ parksFirst →
    y.record.position = x.record.position.map (fun p =>
      { p with
        phase := .cycleOff, cycleNumber := 1, cycleCount := e.cycleCount
        timer := .running (s.now + e.offTime * 1000) }) ∧
    y.power.rails = false ∧ y.record.reserved = 0 ∧ y.record.powerPhase = some .off ∧ y.bus = .idle) ∧
  (begins → e.kind = .cycle → parksFirst →
    y.record = (stands fun p =>
      { p with phase := .cycleOff, timer := .none, cycleNumber := 1, cycleCount := e.cycleCount }).record ∧
    y.power = x.power ∧
    (x.run.outstanding = none → y.run = { x.run with outstanding := some .park } ∧
      (OneReserved x.bus.queue → y.bus = { x.bus with queue := handedOver x.bus.queue .park })) ∧
    (x.run.outstanding ≠ none → y.run = { x.run with deferred := some .park } ∧ y.bus = x.bus)) ∧
  (begins → e.kind = .drive → x.record.link = .lost → ended (.failed .link)) ∧
  (begins → e.kind = .drive → x.record.link = .ok →
    let test : Message := .runTest e.testCode e.argument
    y.record = (stands fun p => { p with phase := .starting, timer := .none }).record ∧ y.power = x.power ∧
    (x.run.outstanding = none → y.run = { x.run with outstanding := some test } ∧
      (OneReserved x.bus.queue → y.bus = { x.bus with queue := handedOver x.bus.queue test })) ∧
    (x.run.outstanding ≠ none → y.run = { x.run with deferred := some test } ∧ y.bus = x.bus))

/-! ### The diagnostic buses -/

/-- The exchange awaits a reply, and characters arriving at an instant are in time (R79 checks 1 and 2): the reply begins
before the reply wait runs out, and no gap inside it exceeds the reply wait. At the very instant the order of the
commands decides (logs 2, 57). -/
def InTime (now deadline wait lastAt : Nat) (got : List Byte) : Prop :=
  (got = [] ∧ now ≤ deadline) ∨ (got ≠ [] ∧ now ≤ lastAt + wait)

/-- What every valid reply to the frame in flight of a window does (R87 steps 1 to 4, R88, R93), x being what the slot
holds beside: the link OK with its counter at 0, the poll clock restarted in ON, LINK_OK offered where the link was
LOST, and the queue left by the frame answered. Where a CONTINUE is queued it takes the front, and is sent in the same
window unless another slot of the bus is due and the frame count has reached the quantum; else the window ends. -/
def State.repliedTo (s : State) (b : BayId) (w : Window) (x : Slot) (queue : List QueuedFrame) (next : Option Continued) :
    State :=
  let i := slotAt b w.position
  let goesOn := s.otherDue b w.position = false ∨ w.count < s.settings.quantum
  { s with
    slots := s.slotsWith i
      { x with
        record := { x.record with link := .ok, misses := 0 }
        bus :=
          { queue := (next.map QueuedFrame.cont).toList ++ queue
            poll := if x.record.powerPhase = some .on then .running s.now else x.bus.poll } }
    buses := s.buses.set b.val
      { s.bus b with
        window := match next with
          | some c =>
            if goesOn then
              some { w with count := w.count + 1, frame := .queued (.cont c), stage := .sending, removed := false }
            else none
          | none => none }
    events := if (s.record i).link = .lost then s.events.offer (.linkOk i) else s.events }

/-- The slot waits for its park with its rails on (R116, R124). -/
def State.parkAwaited (s : State) (i : SlotId) : Prop :=
  (s.run i).stage = .parkWait ∨ (s.inPhase i .cycleOff = true ∧ (s.record i).powerPhase = some .on)

/-- The Step Sequencer's message that leaves the queue when the frame of a window is dropped (R92). -/
def Window.messageLost (w : Window) : Option Message :=
  match w.frame with
  | .queued (.message m) => if w.removed then none else some m
  | .queued (.raw _ _ _) | .queued (.cont _) | .poll => none

/-- The reports of a window's frame dropped at a LOST link (R92 step 2): a RAW frame's and that of a CONTINUE after one,
which is owed its part. -/
def Window.reportsLost (w : Window) (i : SlotId) : List Event :=
  match w.frame with
  | .queued (.raw _ _ tag) => if w.removed then [] else [.diagEnd i tag .lost 0]
  | .queued (.cont (.raw tag part)) => if w.removed then [] else [.diagEnd i tag .lost part]
  | .queued (.message _) | .queued (.cont (.message _)) | .queued (.cont .poll) | .poll => []

/-- A miss, taken at an instant, makes the link of a window's slot LOST (R92). -/
def State.losesLink (s : State) (b : BayId) (w : Window) : Prop :=
  let r := s.record (slotAt b w.position)
  r.link = .ok ∧ s.settings.retryLimit + 1 ≤ min 8 (r.misses + 1)

/-- A miss on a window, taken at an instant (R90 to R92), before the Step Sequencer acts: the window ended, the counter
and LINK raised; where the link is LOST, or becomes so with its LINK_LOST event, the frame missed, unless a poll's or a
removed one, has left the queue, with its report or, a message, no longer outstanding. -/
def State.missed (s : State) (b : BayId) (w : Window) (instant : Nat) : State :=
  let i := slotAt b w.position
  let r := s.record i
  let misses := min 8 (r.misses + 1)
  let metric := if r.life = .active then r.metrics.link.map fun v => min 255 (v + 1) else r.metrics.link
  let becomes := r.link = .ok ∧ s.settings.retryLimit + 1 ≤ misses
  let drops := (r.link = .lost ∨ becomes) ∧ w.frame ≠ .poll ∧ w.removed = false
  let e1 := if becomes then s.events.offer (.linkLost i metric) else s.events
  { s with
    now := max s.now instant
    buses := s.buses.set b.val { s.bus b with window := none }
    slots := s.slotsWith i
      { s.slot i with
        record := { r with
          misses, metrics := { r.metrics with link := metric }, link := if becomes then .lost else r.link }
        run := if drops ∧ w.messageLost.isSome then { s.run i with outstanding := none } else s.run i
        bus := if drops then { s.slotBus i with queue := (s.slotBus i).queue.tail } else s.slotBus i }
    events := if drops then (w.reportsLost i).foldl EventPort.offer e1 else e1 }

/-- TEXC after a report's drive temperature (R97): raised to the excess over the working setpoint while the slot is ACTIVE
and the latest zone report shows RAMP or HOLD, as it was elsewhere. -/
def State.texcAfter (s : State) (i : SlotId) (temperature : Int) : Option Nat :=
  let old := (s.record i).metrics.texc
  match (s.slotReport i).setpoint with
  | some w =>
    if (s.record i).life = .active ∧ (s.slotReport i).state.runs = true then
      some (max (old.getD 0) (max 0 (min 255 (temperature - w / 4))).toNat)
    else old
  | none => old

/-! ### Zones -/

/-- A zone after a change of its state between periods: its duties and its report (R69, R74). -/
def Zone.settled (z : Zone) (mode : ShelfMode) : Zone :=
  let y : Zone := { z with heater := (z.duties mode).1, fan := (z.duties mode).2 }
  { y with report := y.formReport }

/-- A zone whose heat is withdrawn at the entry to SAFE (R192, Table 3-5). -/
def Zone.withdrawn (z : Zone) : Zone :=
  { z with
    heater := 0
    fan := if z.state = .shutdown ∨ z.state = .sensorFault then 255 else z.param.safeFan }

/-- Zone z becomes y, outside a control period: y's duties are set and its report published, its ZONE event is offered
first, and only slots of the bay whose step waits for its gate can be acted on, in RUN (R52, R69, R74, R108). -/
def State.ZoneChange (s : State) (z : BayId) (y : Zone) (cause : ZoneCause) (t : State) : Prop :=
  ∃ slots events admission dispatch buses admissionDue pickDue,
    t = { s with
      zones := s.zones.set z.val (y.settled s.mode), slots, events, admission, dispatch, buses, admissionDue, pickDue } ∧
    (s.events.offer
      (.zone z (s.zone z).state y.state cause y.temperature (y.position.map fun p => (p.segment, p.loop)) none)).OfferedTo
        events ∧
    ∀ i : SlotId, s.mode = .safe ∨ bayOf i ≠ z ∨ s.inPhase i .waitGate = false → slots[i.val] = s.slot i

/-- No step of the slot stands in BETWEEN or WAIT_GATE, so that no zone report and no return to RUN acts on it. -/
def State.NotWaiting (s : State) (i : SlotId) : Prop :=
  s.inPhase i .between = false ∧ s.inPhase i .waitGate = false

/-- The slot an event is of: the one it names, or the one whose window is open on the bus it names (R77, R86). -/
def State.slotOf (s : State) : Instr → Option SlotId
  | .rawSwitchChange i _ | .presenceTaken i | .readyLineChange i _ | .spinupTimeout i | .readyGuardExpiry i
  | .currentSample i _ _ | .pollClockExpiry i | .gateWaitExpiry i | .driveTimeout i | .dwellExpiry i
  | .cycleOffExpiry i | .cycleOnExpiry i | .spinDownExpiry i => some i
  | .driveFrameSent b | .driveReplyReceived b _ | .replyWaitExpiry b | .replyGapTimeout b
  | .replyBrokenByMarkByte b _ => (s.bus b).window.map fun w => slotAt b w.position
  | .ping | .shelfStatus | .shelfConfig | .tableWrite | .tableRead | .eventConfig | .silenceConfig | .shelfStop
  | .shelfResume | .restart | .slotStart | .slotAbort | .slotRestart | .slotQuery | .slotSnapshot | .diagSend
  | .zoneStart | .zoneStop | .zoneClear | .dispatchEnable | .dispatchWithdraw | .laneOpen | .laneClose | .manifestTake
  | .handlerResume | .transferConfirm | .unknownRequest | .powerOnReset _ | .warmReset _ _ | .cellFrameReceived _
  | .frameGapTimeout _ | .outboundFrameSent | .silenceExpired | .controlPeriod _ _ | .holdExpiry _ _
  | .windowGrant _ | .seatRequest _ _ | .seatDone _ _ | .handlerTaken _ _ | .handlerRefused _ _ _
  | .handlerDone _ _ | .handlerFailed _ _ _ | .toteIn _ _ | .toteOut _ _ | .handlerFrameMalformed _ | .offerTimeout
  | .carryTimeout | .seatDoneWaitExpiry | .handlerFrameSent => none

/-! ### Conditions that every step keeps -/

/-- R69, R75, R192: no heat in SAFE, nor outside RAMP and HOLD; full fan in SHUTDOWN and SENSOR_FAULT. -/
def State.HeatWithdrawn (s : State) : Prop :=
  ∀ z : BayId,
    (s.mode = .safe ∨ (s.zone z).state.runs = false → (s.zone z).heater = 0) ∧
    ((s.zone z).state = .shutdown ∨ (s.zone z).state = .sensorFault → (s.zone z).fan = 255)

/-- The places a pick in flight keeps in the manifest (R162). -/
def Transfer.places : Transfer → Nat
  | .pick _ _ _ _ => 1
  | .idle | .seat _ _ _ => 0

/-- R80: an outbound queue holds at most four frames: one in the reserved place, three in the general places. -/
def BusContext.Bounded (x : BusContext) : Prop :=
  x.queue.length ≤ 4 ∧ (x.queue.filter fun f => f.reserved).length ≤ 1 ∧ (x.queue.filter fun f => !f.reserved).length ≤ 3

/-- The frame is a CONTINUE (R87 step 4). -/
def QueuedFrame.isContinue : QueuedFrame → Bool
  | .cont _ => true
  | .message _ | .raw _ _ _ => false

/-- R80, R86, R87: a queued frame that is in flight on a bus, and has not been removed, stands at the head of its slot's
queue; and while a poll is in flight, its slot's queue holds no CONTINUE. -/
def State.inFlightHeads (s : State) (b : BayId) : Bool :=
  match (s.bus b).window with
  | some w =>
    match w.frame with
    | .queued f => w.stage == .deciding || w.removed || (s.slotBus (slotAt b w.position)).queue.head? == some f
    | .poll => !(s.slotBus (slotAt b w.position)).queue.any QueuedFrame.isContinue
  | none => true

/-- Table 10-1, R80 and R162: the queues hold no more than their depths; a queued frame that is in flight stands at the
head of its slot's queue, and a poll in flight finds no CONTINUE in it; and a pick in flight has its place in the
manifest. -/
def State.QueuesBounded (s : State) : Prop :=
  s.cell.input.length ≤ 4 ∧ s.cell.refusals.length ≤ 4 ∧ s.events.queue.length ≤ 32 ∧
    s.dispatch.manifest.length + s.handler.transfer.places ≤ 48 ∧
    (∀ i : SlotId, (s.slotBus i).Bounded) ∧ ∀ b : BayId, s.inFlightHeads b = true

/-- R152, R153: the count of a lane lies in 0 to its capacity, its state follows its count unless it is CLOSED, and the
lane of a pick in flight has a place for it. -/
def State.LanesSound (s : State) : Prop :=
  ∀ l : LaneId,
    1 ≤ (s.lane l).capacity ∧ (s.lane l).capacity ≤ 60 ∧ s.laneFloor l ≤ (s.lane l).capacity ∧
    ((s.lane l).state = .open → (s.lane l).count < (s.lane l).capacity) ∧
    ((s.lane l).state = .full → (s.lane l).count = (s.lane l).capacity)

/-- R165, R156, R157, R13: a slot is UNLOADING exactly while its pick is carried or awaits its confirmation, RESERVED
exactly while its seat is in flight, and DISPATCH exactly while the dispatch queue holds it, once, marked offered
exactly while its pick is OFFERED. -/
def State.TransfersSound (s : State) : Prop :=
  (∀ i : SlotId,
    ((s.record i).life = .unloading ↔
      s.handler.transfer.slot = some i ∧
        (s.handler.transfer.state = .carrying ∨ s.handler.transfer.state = .awaitingConfirm)) ∧
    ((s.record i).life = .reserved ↔ s.handler.transfer.slot = some i ∧ s.handler.transfer.state = .seating) ∧
    ((s.record i).life = .dispatch ↔ i ∈ s.dispatch.queue.map DispatchEntry.slot)) ∧
  (s.dispatch.queue.map DispatchEntry.slot).Nodup ∧
  (s.handler.transfer.state = .offered →
    ∃ e ∈ s.dispatch.queue, s.handler.transfer.slot = some e.slot) ∧
  ∀ e ∈ s.dispatch.queue,
    (e.offered = true ↔ s.handler.transfer.slot = some e.slot ∧ s.handler.transfer.state = .offered)

/-- The entries of the admission queue. -/
def State.waiting (s : State) : List AdmissionEntry := s.admission.toList.flatten

/-- R27 to R36: the reserved sum never exceeds the budget; no plan's, no run's and no waiting run's running amount
exceeds its surge amount; the power phase is present in ACTIVE and PARKING alone; a slot's rails are on exactly in
SPINUP and ON, and it holds nothing, spins up nothing and is not sampled while they are off; it is QUEUED exactly while
the admission queue holds it, once; and a slot that spins up is ACTIVE. -/
def State.PowerSound (s : State) : Prop :=
  s.reservedSum ≤ s.settings.budget ∧
  (∀ p : PlanId, (s.planHead p).running ≤ (s.planHead p).surge) ∧
  (s.waiting.map AdmissionEntry.slot).Nodup ∧
  (∀ e ∈ s.waiting, ∀ a, (s.power e.slot).amounts = some a → a.running ≤ e.surge) ∧
  (∀ i : SlotId, ∀ a, (s.power i).amounts = some a → a.running ≤ a.surge) ∧
  ∀ i : SlotId,
    ((s.record i).powerPhase.isSome = true ↔ (s.record i).life = .active ∨ (s.record i).life = .parking) ∧
    ((s.power i).rails = true ↔ s.powered i = true) ∧
    ((s.power i).rails = false →
      (s.record i).reserved = 0 ∧ (s.power i).spinup = none ∧ (s.power i).sampleDue = none) ∧
    ((s.record i).powerPhase = some .queued ↔ i ∈ s.waiting.map AdmissionEntry.slot) ∧
    ((s.power i).spinup ≠ none →
      (s.record i).life = .active ∧ (s.record i).powerPhase = some .spinup ∧
        ∀ a, (s.power i).amounts = some a → a.running ≤ (s.record i).reserved)

/-- R104, R117: the run stage belongs to the life state; a QUEUED slot waits for power at its start or in CYCLE_ADMIT; a
step in CYCLE_OFF whose off timer runs has its power phase OFF (R125); the spin-down wait is that of a PARKING slot in
SPIN_DOWN, its rails off. -/
def State.RunsSound (s : State) : Prop :=
  ∀ i : SlotId,
    ((s.run i).stage = .powerWait ∨ (s.run i).stage = .identify ∨ (s.run i).stage = .steps ↔
      (s.record i).life = .active) ∧
    ((s.run i).stage = .parkWait ∨ (s.run i).stage = .spinDown ↔ (s.record i).life = .parking) ∧
    ((s.record i).powerPhase = some .queued →
      (s.run i).stage = .powerWait ∨ s.inPhase i .cycleAdmit = true) ∧
    (s.inPhase i .cycleOff = true → s.stepDeadline i ≠ none → (s.record i).powerPhase = some .off) ∧
    ((s.run i).stage = .spinDown → (s.record i).powerPhase = some .off) ∧
    ((s.run i).spinDown ≠ none → (s.run i).stage = .spinDown)

/-- What ties the life state of every slot to its power, its run and its transfer. -/
def State.Sound (s : State) : Prop := s.PowerSound ∧ s.RunsSound ∧ s.TransfersSound

/-- R58 to R63: a zone holds a position exactly while it runs its profile or, in SENSOR_FAULT, ran it before; the
position lies in its active profile; a staged profile exists only beside a position; no profile has more than twelve
segments; the state remembered in SENSOR_FAULT is one that the zone can have left. -/
def Zone.Sound (z : Zone) : Prop :=
  (z.position.isSome ↔ z.state.runs = true ∨ (z.state = .sensorFault ∧ z.left.runs = true)) ∧
  (∀ p, z.position = some p → p.segment < z.active.segmentCount ∧ 1 ≤ p.loop ∧ p.loop ≤ 255) ∧
  (z.staged.isSome = true → z.position.isSome = true) ∧
  z.active.segmentCount ≤ 12 ∧ (∀ f, z.staged = some f → f.segmentCount ≤ 12) ∧
  z.left ≠ .sensorFault ∧ z.left ≠ .shutdown

/-- Every zone is sound. -/
def State.ZonesSound (s : State) : Prop := ∀ z : BayId, (s.zone z).Sound

/-- Nothing the part could do at once has been left undone: no run or selection is called for, and neither line is free
with a frame waiting for it. -/
def State.Settled (s : State) : Prop := s.AtRest ∧ s.LineAtRest

/-- Two states hold the same settings and tables, the ten of Table 10-3: what only SHELF_CONFIG, TABLE_WRITE and a
power-on reset write. A zone's profile is the one TABLE_READ returns, the staged one where one exists (R60). A lane's and
a zone's own working state is no part of it. -/
def State.SameConfiguration (s t : State) : Prop :=
  t.settings = s.settings ∧ t.planHeads = s.planHeads ∧ t.planSteps = s.planSteps ∧
  t.metricTable = s.metricTable ∧ t.gradeTable = s.gradeTable ∧ t.binMap = s.binMap ∧ t.offsets = s.offsets ∧
  (∀ z : BayId, (t.zone z).entry = (s.zone z).entry ∧
    (t.zone z).staged.getD (t.zone z).active = (s.zone z).staged.getD (s.zone z).active) ∧
  ∀ l : LaneId, (t.lane l).capacity = (s.lane l).capacity

/-- What an event of one slot, one bus or one zone leaves as it was: the modes, the settings and tables, the lanes, the
manifest and the input queue. -/
def State.KeptBeside (s t : State) : Prop :=
  t.mode = s.mode ∧ t.silence = s.silence ∧ t.lanes = s.lanes ∧ t.cell.input = s.cell.input ∧
  t.dispatch.manifest = s.dispatch.manifest ∧ s.SameConfiguration t

/-- Slot j is as it was but for what an admission gives it: its reservation, its power and the phase of its step (R34). -/
def State.OnlyAdmitted (s : State) (j : SlotId) (t : State) : Prop :=
  t.run j = s.run j ∧ t.slotBus j = s.slotBus j ∧ (t.slot j).switch = (s.slot j).switch ∧
  (t.slot j).ready = (s.slot j).ready ∧
  t.record j =
    { s.record j with
      reserved := (t.record j).reserved, powerOnAt := (t.record j).powerOnAt
      powerPhase := (t.record j).powerPhase, position := (t.record j).position }

/-- Slot j is as it was, or, QUEUED in RUN, it has been admitted once, by its entry of the admission queue (R33, R34). -/
def State.AdmittedAtMost (s : State) (j : SlotId) (t : State) : Prop :=
  t.slot j = s.slot j ∨
    (s.mode = .run ∧ (s.record j).powerPhase = some .queued ∧
      ∃ e ∈ s.waiting, e.slot = j ∧ t.slot j = (s.slot j).admittedBy e t.now s.settings.spinupTimeout)

end Sys2Proof.Machine
end

