-- ==== Sys2Proof/Certificates/Slice0/Obligations.lean ====
section
/-! DEFINITION. The statements about the model, in four groups: what every step keeps, encodings, what each command does,
and the shared work that ends a command. `State.finish` stands for that shared work: the admission run and the pick
selection the command has called for, then the frames the two lines begin. -/

open Sys2Proof Sys2Proof.Machine

/-! ### What every step keeps -/

/-- One step takes the command at the front of the queue and has its effect on the rest; on an empty queue a
millisecond of shelf time passes (the model's choice, log 1). -/
def Obligations.StepRunsTheFrontCommand : Prop :=
  (∀ (c : Instr) (rest : List Instr) (s : State), s.pending = c :: rest → step s = exec c { s with pending := rest }) ∧
  ∀ s : State, s.pending = [] → step s = .next { s with now := s.now + 1 }

/-- No command stops the part, and none touches the queue of commands (the model's choice that a command whose event
cannot come has no effect, log 4); and shelf time never runs back but at a power-on reset (log 1, log 38). -/
def Obligations.CommandsAnswerAndTimeRunsOn : Prop :=
  (∀ (c : Instr) (s : State), ∃ t, exec c s = .next t ∧ t.pending = s.pending) ∧
  (∀ (c : Instr) (s t : State), (∀ reads, c ≠ .powerOnReset reads) → exec c s = .next t → s.now ≤ t.now)

/-- R60, R185, R187, R189 and the reset tables: the settings and the ten tables, a profile as TABLE_READ returns it, are
written by SHELF_CONFIG and TABLE_WRITE alone, the event enables by EVENT_CONFIG alone; all survive every other command,
the warm reset among them, but the power-on reset. -/
def Obligations.ConfigurationChangesByItsRequestsAlone : Prop :=
  ∀ (c : Instr) (s t : State), (∀ reads, c ≠ .powerOnReset reads) → exec c s = .next t →
    (c ≠ .tableWrite → c ≠ .shelfConfig → s.SameConfiguration t) ∧
    (c ≠ .eventConfig → t.events.enables = s.events.enables)

/-- R190 to R193: SAFE is entered from RUN by the silence timer and by SHELF_STOP alone, and left for RUN by
SHELF_RESUME and by the resets alone; and once LOCKED, the silence mode stays LOCKED and the period no longer changes,
until a power-on reset. -/
def Obligations.ModesChangeByTheirOwnCommandsAlone : Prop :=
  (∀ (c : Instr) (s t : State), exec c s = .next t →
     (s.mode = .run → t.mode = .safe → c = .silenceExpired ∨ c = .shelfStop) ∧
     (s.mode = .safe → t.mode = .run →
       c = .shelfResume ∨ (∃ reads, c = .powerOnReset reads) ∨ ∃ cause reads, c = .warmReset cause reads)) ∧
  (∀ s t : State, s.silence.mode = .locked → (∀ reads rest, s.pending ≠ .powerOnReset reads :: rest) →
     step s = .next t → t.silence.mode = .locked ∧ t.silence.period = s.silence.period)

/-- R69, R75, R192: in SAFE no zone heats, nor outside RAMP and HOLD, and a zone in SHUTDOWN or SENSOR_FAULT has its
fan at 255, after every step from a state where that holds. -/
def Obligations.HeatStaysWithdrawn : Prop :=
  ∀ s t : State, s.HeatWithdrawn → step s = .next t → t.HeatWithdrawn

/-- Table 10-1, R80, R162: no queue outgrows its depth, a slot's outbound queue among them, with at most one frame in
the reserved place and three in the general places; a queued frame in flight, unless removed, stays at the head of its
queue, and a poll in flight finds no CONTINUE in its slot's queue; and records with the pick in flight never exceed 48. -/
def Obligations.QueuesStayBounded : Prop :=
  ∀ s t : State, s.QueuesBounded → step s = .next t → t.QueuesBounded

/-- R152, R153: a lane's count stays in 0 to its capacity, its state follows the count, and a committed lane keeps a
place for the drive in flight. -/
def Obligations.LanesStaySound : Prop :=
  ∀ s t : State, s.LanesSound → step s = .next t → t.LanesSound

/-- R58 to R63: positions, staged profiles and segment counts stay consistent in every zone. -/
def Obligations.ZonesStaySound : Prop :=
  ∀ s t : State, s.ZonesSound → step s = .next t → t.ZonesSound

/-- R27, R28, R34, R36, R104, R117, R125: from every state that is Sound, a step leaves the sum of reservations within the
budget, rails on exactly in SPINUP and ON, the admission queue holding exactly the QUEUED slots, each once, with all
else that PowerSound names, and the run stage of every slot that of its life state, as RunsSound names. -/
def Obligations.PowerAndRunsStaySound : Prop :=
  (∀ s t : State, s.Sound → step s = .next t → t.PowerSound) ∧
  (∀ s t : State, s.Sound → step s = .next t → t.RunsSound)

/-- R13, R156, R157, R165: from every state that is Sound, a step leaves UNLOADING, RESERVED and DISPATCH slots
exactly those that the transfer record and the dispatch queue name. -/
def Obligations.TransfersStaySound : Prop :=
  ∀ s t : State, s.Sound → step s = .next t → t.TransfersSound

/-- R33, R160, R184, R199: after every step nothing is left undone: no run or selection is still called for, and no
line is free with a frame waiting for it. -/
def Obligations.StepsLeaveNothingUndone : Prop :=
  ∀ s t : State, s.Settled → step s = .next t → t.Settled

/-- The state after reset meets every condition that the steps keep. -/
def Obligations.ResetMeetsEveryCondition : Prop :=
  State.reset.HeatWithdrawn ∧ State.reset.QueuesBounded ∧ State.reset.LanesSound ∧ State.reset.ZonesSound ∧
    State.reset.Sound ∧ State.reset.Settled

/-- R77, R1, R52: an event of a slot, or of a bus while its window is the slot's, leaves the modes, settings, tables,
zones, lanes, manifest and input queue, the other buses, and of every other slot all but what an admission gives it;
from a Sound state every other slot stands whole, unless it was QUEUED and its entry has been admitted, once. A control
period leaves the same but for its zone and the slots of its bay. -/
def Obligations.EventsKeepToTheirSlotOrBay : Prop :=
  (∀ (c : Instr) (s t : State) (i : SlotId), s.slotOf c = some i → exec c s = .next t →
    s.KeptBeside t ∧ t.zones = s.zones ∧ (∀ b, b ≠ bayOf i → t.bus b = s.bus b) ∧
    ∀ j, j ≠ i → s.OnlyAdmitted j t ∧ (s.Sound → s.AdmittedAtMost j t)) ∧
  ∀ (z : BayId) (r : ZoneReads) (s t : State),
    exec (.controlPeriod z r) s = .next t ∨ exec (.holdExpiry z r) s = .next t →
    s.KeptBeside t ∧ (∀ z', z' ≠ z → t.zone z' = s.zone z') ∧ (∀ b, b ≠ z → t.bus b = s.bus b) ∧
    ∀ j, bayOf j ≠ z → s.OnlyAdmitted j t ∧ (s.Sound → s.AdmittedAtMost j t)

/-! ### Encodings -/

/-- Table 11-2, R180: a hunting receiver that takes a frame's bytes completes exactly that frame and hunts again; a
frame whose CRC field differs from its CRC, or whose length names fewer than 2 or more than 252 bytes, is discarded
and the receiver hunts again. -/
def Obligations.FramesComeThroughTheReceiverWhole : Prop :=
  (∀ (now : Nat) (kind tag : Byte) (body : List Byte), body.length ≤ 250 →
     Receiver.hunting.feedAll now (frameBytes kind tag body) = (.hunting, [{ kind, tag, body }])) ∧
  ((∀ (now : Nat) (kind tag : Byte) (body : List Byte) (crc : BitVec 16), body.length ≤ 250 →
     crc ≠ crc16 (envelopeBytes kind tag body) →
     Receiver.hunting.feedAll now (syncByte :: envelopeBytes kind tag body ++ be 2 crc.toNat) = (.hunting, [])) ∧
   ∀ (now n : Nat), n < 65536 → n < 2 ∨ 252 < n →
     Receiver.hunting.feedAll now (syncByte :: be 2 n) = (.hunting, []))

/-- R79, R200, Table 11-10: the characters of a drive's reply assemble to its bytes, and the bytes are judged valid,
with their kind, flag and body, by the slot at that position alone. -/
def Obligations.DriveRepliesComeThrough : Prop :=
  ∀ (p q : Position) (f : BusFrame) (kind : Byte) (continues : Bool) (body : List Byte), body.length ≤ 60 →
    f.accepts.contains kind = true → layoutGood f.isRaw kind body = true →
    assemble [] (driveReplyChars p kind continues body) = .complete (driveReplyBytes p kind continues body) ∧
    judgeReply q f (driveReplyBytes p kind continues body) = if q = p then some { kind, continues, body } else none

/-- R185, R186, Table 11-5: an entry stored without any value brought into range reads back byte for byte, in every
table but LANE, whose read entry holds more than its write entry. The last byte of a ZONE_PARAM entry is 0 (log 26).
-/
def Obligations.TableEntriesReadBackAsWritten : Prop :=
  ∀ (s : State) (t : Table) (k : Nat) (l : List Byte), t ≠ .lane → k < t.entries → l.length = t.writeSize →
    t.refuses l = false → (t = .zoneParam → l[14]? = some 0) → (∀ z, (s.zone z).Sound) →
    (s.storeEntry t k l).2 = false → (s.storeEntry t k l).1.readEntry t k = l

/-- R24, R163, R194, Tables 11-7, 11-8, 11-12: the body of SLOT_QUERY has 92 bytes and 3 for each outcome entry, that of
MANIFEST_TAKE 6 bytes and 37 for each record, that of SHELF_STATUS 68 bytes, whatever the state; and each field of the
three layouts stands at its offset, in its width, most significant byte first, 0 where it is absent. The seconds left on
a step timer, a part of a second or a frozen gate timer with it, are the model's choice (logs 16, 50). -/
def Obligations.ReplyBodiesHaveTheirLengths : Prop :=
  (∀ (now : Nat) (i : SlotId) (r : SlotRecord),
     let body := slotQueryBody now i r
     let since := fun t : Option Nat => (t.map fun t0 => min 4294967295 (now - t0)).getD 0
     let left := fun t : StepTimer => match t with
       | .none => 0
       | .running d => (d - now + 999) / 1000
       | .frozen ms => (ms + 999) / 1000
     let at' := fun f : StepPosition → Nat => (r.position.map f).getD 0
     let graded := fun f : GradeResult → Nat => (r.grade.map f).getD 0
     let present :=
       [r.plan.isSome, r.disposition.isSome, r.powerPhase.isSome, r.powerOnAt.isSome, r.powerOffAt.isSome,
         r.position.isSome, r.identity.isSome, r.metrics.spin.isSome, r.metrics.grow.isSome, r.metrics.rrate.isSome,
         r.metrics.texc.isSome, r.metrics.link.isSome, r.metrics.pcyc.isSome, r.grade.isSome, r.fault.isSome, r.hold.isSome]
     body.length = 92 + 3 * r.outcomes.length ∧
     Body.Holds body
       [(0, 1, i.val), (1, 1, r.life.ctorIdx), (2, 1, r.presence.ctorIdx), (3, 2, flagBits present),
         (5, 1, (r.plan.map Fin.val).getD 0), (6, 1, (r.priority.map Fin.val).getD 0),
         (7, 1, (r.disposition.map fun d => d.ctorIdx).getD 0), (8, 1, (r.powerPhase.map fun p => p.ctorIdx).getD 0),
         (9, 1, r.reserved), (10, 4, since r.powerOnAt), (14, 4, since r.powerOffAt), (18, 1, at' StepPosition.index),
         (19, 1, at' fun q => q.phase.ctorIdx), (20, 4, at' fun q => left q.timer), (24, 2, at' StepPosition.cycleNumber),
         (26, 2, at' StepPosition.cycleCount), (48, 2, (r.identity.map Identity.model).getD 0),
         (50, 4, (r.identity.map Identity.capacity).getD 0), (54, 1, r.link.ctorIdx), (55, 1, r.misses),
         (56, 4, r.counters.kiloblocks), (60, 3, r.counters.retries), (63, 2, r.counters.newDefects),
         (65, 1, r.counters.progress), (66, 1, (r.counters.temperature % 256).toNat), (67, 2, r.metrics.spin.getD 0),
         (69, 2, r.metrics.grow.getD 0), (71, 2, r.metrics.rrate.getD 0), (73, 1, r.metrics.texc.getD 0),
         (74, 1, r.metrics.link.getD 0), (75, 1, r.metrics.pcyc.getD 0), (76, 3, r.metrics.retryTotal),
         (79, 4, r.metrics.kiloblockTotal), (83, 1, graded fun g => g.bin.val), (84, 2, graded GradeResult.score),
         (86, 1, graded fun g => g.reason.numbers.1), (87, 1, graded fun g => g.reason.numbers.2),
         (88, 1, (r.fault.map fun f => f.ctorIdx).getD 0), (89, 1, (r.hold.map fun h => h.ctorIdx).getD 0),
         (90, 1, r.snapshot.toNat), (91, 1, r.outcomes.length)] ∧
     (body.drop 28).take 20 = serialField r.identity ∧
     ∀ (k : Nat) (h : k < r.outcomes.length),
       let e := r.outcomes[k]
       Body.Holds body [(92 + 3 * k, 1, e.index), (93 + 3 * k, 1, e.outcome.numbers.1), (94 + 3 * k, 1, e.outcome.numbers.2)]) ∧
  (∀ (l : List ManifestRecord) (remaining next : Nat),
     let body := manifestBody l remaining next
     body.length = 6 + 37 * l.length ∧ Body.Holds body [(0, 1, l.length), (1, 1, remaining), (2, 4, next)] ∧
     ∀ (k : Nat) (h : k < l.length),
       let m := l[k]
       let record := (body.drop (6 + 37 * k)).take 37
       Body.Holds record
         [(0, 4, m.number), (4, 1, m.slot.val), (5, 1, flagBits [m.identity.isSome, m.confirmed]),
           (26, 2, (m.identity.map Identity.model).getD 0), (28, 1, m.bin.val), (29, 2, m.score),
           (31, 1, m.reason.numbers.1), (32, 1, m.reason.numbers.2), (33, 1, m.lane.val), (34, 2, m.toteSequence),
           (36, 1, m.place)] ∧
       (record.drop 6).take 20 = serialField m.identity) ∧
  ∀ s : State,
    let e := s.events.enables
    let r := s.handler.transfer
    s.statusBody.length = 68 ∧
    Body.Holds s.statusBody
      [(0, 1, s.mode.ctorIdx), (1, 1, s.silence.mode.ctorIdx), (2, 2, s.silence.period),
        (4, 4, (s.silence.timer.map fun d => d - s.now).getD 0), (8, 1, s.silence.expired.toNat),
        (9, 1, s.events.lost.toNat),
        (10, 2, flagBits [e.slot, e.fault, e.grade, e.zone, e.transfer, e.lane, e.diag, e.snapshot, e.supervision]),
        (12, 1, s.events.queue.length), (13, 1, s.events.next.toNat), (14, 2, s.settings.budget), (16, 2, s.reservedSum),
        (46, 1, r.state.ctorIdx),
        (47, 1, flagBits [r.kind.isSome, r.slot.isSome, r.lane.isSome, r.start.isSome, r.seatDone.isSome]),
        (48, 1, (r.kind.map fun k => k.ctorIdx).getD 0), (49, 1, (r.slot.map Fin.val).getD 0),
        (50, 1, (r.lane.map Fin.val).getD 0), (51, 4, (r.start.map fun t => min 4294967295 (s.now - t)).getD 0),
        (55, 1, (r.seatDone.map Bool.toNat).getD 0), (56, 1, s.dispatch.enabled.toNat),
        (57, 1, s.dispatch.stall.isSome.toNat), (58, 1, (s.dispatch.stall.map fun x => x.cause.numbers.1).getD 0),
        (59, 1, (s.dispatch.stall.map fun x => x.cause.numbers.2).getD 0),
        (60, 1, (s.dispatch.stall.map fun x => x.slot.val).getD 0),
        (61, 1, (s.dispatch.stall.map fun x => x.lane.val).getD 0), (62, 1, s.dispatch.queue.length),
        (63, 1, s.dispatch.manifest.length), (64, 4, s.dispatch.nextRecord)] ∧
    (∀ l : Fin 4, Body.Holds s.statusBody [(18 + l.val, 1, (s.admission[l.val]).length)]) ∧
    ∀ z : BayId,
      let x := s.zone z
      Body.Holds s.statusBody
        [(22 + 6 * z.val, 1, x.state.ctorIdx),
          (23 + 6 * z.val, 1, flagBits [x.reading0.isSome, x.reading1.isSome, x.staged.isSome]),
          (24 + 6 * z.val, 2, (x.reading0.getD 0 % 65536).toNat), (26 + 6 * z.val, 2, (x.reading1.getD 0 % 65536).toNat)]

/-! ### The Cell Link -/

/-- R180, R181, R190: the bytes of a valid frame restart the silence timer in RUN; the frame joins the input queue, or
its refusal joins the refusal list where the queue holds four, or it is dropped where that list holds four too;
nothing else changes but what the line then begins. The first part of a frame is held with the instant of its last
byte; a rest that comes no more than 5 ms later completes it, and bytes that come later find it discarded. The gap
limit runs out 5 ms after the last byte of the frame its link assembles, and discards that frame and nothing else (that
FRAME_GAP_TIMEOUT acts at that instant is the model's choice, log 12); a receiver that hunts has no gap (log 4). -/
def Obligations.FramesAndGapsOnTheLinks : Prop :=
  (∀ (s : State) (kind tag : Byte) (body : List Byte), s.cell.rx = .hunting → body.length ≤ 250 →
     exec (.cellFrameReceived (frameBytes kind tag body)) s = .next (State.finish
       { s with
         silence := if s.mode = .run then { s.silence with timer := some (s.now + s.silence.period * 1000) } else s.silence
         cell := { s.cell with
           input := if s.cell.input.length < 4 then s.cell.input ++ [{ kind, tag, body }] else s.cell.input
           refusals :=
             if s.cell.input.length < 4 ∨ 4 ≤ s.cell.refusals.length then s.cell.refusals
             else s.cell.refusals ++ [(kind, tag)] } })) ∧
  (∀ (s : State) (kind tag : Byte) (body first rest : List Byte), body.length ≤ 250 → first ≠ [] → rest ≠ [] →
     frameBytes kind tag body = first ++ rest →
     (s.cell.rx = .hunting →
       exec (.cellFrameReceived first) s =
         .next (State.finish { s with cell := { s.cell with rx := .assembling first.tail s.now } })) ∧
     (∀ lastAt, s.cell.rx = .assembling first.tail lastAt → s.now ≤ lastAt + 5 →
       exec (.cellFrameReceived rest) s =
         exec (.cellFrameReceived (frameBytes kind tag body)) { s with cell := { s.cell with rx := .hunting } }) ∧
     (s.handler.rx = .hunting →
       exec (.handlerFrameMalformed first) s =
         .next { s with handler := { s.handler with rx := .assembling first.tail s.now } }) ∧
     (∀ lastAt, s.handler.rx = .assembling first.tail lastAt → s.now ≤ lastAt + 5 →
       exec (.handlerFrameMalformed rest) s =
         exec (.handlerFrameMalformed (frameBytes kind tag body)) { s with handler := { s.handler with rx := .hunting } })) ∧
  ∀ (s : State) (got bytes : List Byte) (lastAt : Nat),
    let cellHunts : State := { s with cell := { s.cell with rx := .hunting } }
    let handlerHunts : State := { s with handler := { s.handler with rx := .hunting } }
    (s.cell.rx = .assembling got lastAt →
      exec (.frameGapTimeout .cell) s = .next { cellHunts with now := max s.now (lastAt + 5) } ∧
      (lastAt + 5 < s.now → bytes ≠ [] →
        exec (.cellFrameReceived bytes) s = exec (.cellFrameReceived bytes) cellHunts)) ∧
    (s.handler.rx = .assembling got lastAt →
      exec (.frameGapTimeout .handler) s = .next { handlerHunts with now := max s.now (lastAt + 5) } ∧
      (lastAt + 5 < s.now → bytes ≠ [] →
        exec (.handlerFrameMalformed bytes) s = exec (.handlerFrameMalformed bytes) handlerHunts)) ∧
    (s.cell.rx = .hunting → exec (.frameGapTimeout .cell) s = .next s) ∧
    (s.handler.rx = .hunting → exec (.frameGapTimeout .handler) s = .next s)

/-- R184, R195: when a frame has been sent the line begins the head of the refusal list, else the reply of the request
last taken, else the head of the event queue; behind a reply it begins that event even where a request waits, which is
taken by a later command (the model's choice, log 54). Once RESTART has been taken no event follows: behind any other
frame the refusals and then the RESTART reply still go out, and behind that reply the line begins nothing, the refusals
that wait unsent among them, and the warm reset is due (the model's choice, log 6). RESTART is answered OK, and from
then on the port takes no request. -/
def Obligations.TheLineSendsInOrderUntilRestart : Prop :=
  (∀ (s : State) (f : OutFrame), s.AtRest → s.cell.line = some f →
     (s.cell.restart = .none →
       exec .outboundFrameSent s = .next (
         match s.cell.refusals, s.cell.reply, s.events.queue with
         | (kind, tag) :: rest, _, _ =>
           { s with cell := { s.cell with line := some (.refusal kind tag), refusals := rest } }
         | [], some r, _ => { s with cell := { s.cell with line := some (.reply r), reply := none } }
         | [], none, (n, e) :: rest =>
           { s with cell := { s.cell with line := some (.event n e) }, events := { s.events with queue := rest } }
         | [], none, [] => { s with cell := { s.cell with line := none } })) ∧
     (s.cell.restart = .called → f.isReply = true →
       exec .outboundFrameSent s = .next { s with cell := { s.cell with line := none, restart := .due } }) ∧
     (s.cell.restart = .called → f.isReply = false →
       exec .outboundFrameSent s = .next (
         match s.cell.refusals, s.cell.reply with
         | (kind, tag) :: rest, _ =>
           { s with cell := { s.cell with line := some (.refusal kind tag), refusals := rest } }
         | [], some r => { s with cell := { s.cell with line := some (.reply r), reply := none } }
         | [], none => { s with cell := { s.cell with line := none } })) ∧
     (s.cell.restart = .due → exec .outboundFrameSent s = .next { s with cell := { s.cell with line := none } })) ∧
  (∀ (s : State) (q : Request) (rest : List Request), s.Heads 0x0A q rest → q.body = [] →
     ∃ t, exec .restart s = .next t ∧ t.portReady = false ∧
       t = State.finish
         { s.answered q rest .ok with
           cell := { (s.answered q rest .ok).cell with restart := .called } })

/-- R182: a request command has no effect while the reply before it is still to be sent, after RESTART, and where the
head of the input queue is of another kind (the model's choice for a command that comes out of turn, log 3). -/
def Obligations.RequestsWaitTheirTurn : Prop :=
  ∀ (c : Instr) (s : State), isRequest c = true →
    (s.portReady = false ∨ s.cell.input = [] ∨
      ∃ q rest, s.cell.input = q :: rest ∧ takesKind c q.kind = false) →
    exec c s = .next s

/-- R182, R198: a kind outside Table 10-2 is answered UNKNOWN, and a body whose length does not fit its kind
MALFORMED; nothing else changes. -/
def Obligations.UnknownAndMisfittingRequestsAreRefused : Prop :=
  ∀ (s : State) (q : Request) (rest : List Request),
    (s.Heads q.kind q rest → requestKinds.contains q.kind = false →
      exec .unknownRequest s = .next (s.answered q rest .unknown).finish) ∧
    (∀ (c : Instr) (kind : Byte) (n : Nat), requestKind c = some kind → fixedLength kind = some n →
      s.Heads kind q rest → q.body.length ≠ n → exec c s = .next (s.answered q rest .malformed).finish) ∧
    (s.Heads 0x01 q rest → 32 < q.body.length → exec .ping s = .next (s.answered q rest .malformed).finish) ∧
    (s.Heads 0x03 q rest → settingsFit q.body = false →
      exec .shelfConfig s = .next (s.answered q rest .malformed).finish)

/-- R183: a request refused with any status other than OK changes no state; its reply echoes kind and tag and carries
neither a body nor ADJUSTED. -/
def Obligations.RefusedRequestsChangeNothing : Prop :=
  ∀ (c : Instr) (s t : State) (r : Reply), isRequest c = true → s.portReady = true → exec c s = .next t →
    t.cell.reply = some r ∨ t.cell.line = some (.reply r) → r.status ≠ .ok →
    ∃ q rest, s.cell.input = q :: rest ∧ takesKind c q.kind = true ∧
      r = { kind := q.kind, tag := q.tag, status := r.status, adjusted := false, body := [] } ∧
      t = (s.answered q rest r.status).finish

/-- R183, R194, R24, R186: PING returns its body; SHELF_STATUS answers the status body and then clears the two flags;
SLOT_QUERY answers the slot's record, or RANGE above 23 (the fields of both bodies: `ReplyBodiesHaveTheirLengths`);
TABLE_READ makes its checks in order and answers table, start, count and the entries as they stand. Nothing else
changes. A TABLE_READ body too short for its fields is MALFORMED (log 25). -/
def Obligations.QueriesAnswerAndChangeNothingElse : Prop :=
  (∀ (s : State) (q : Request) (rest : List Request),
     (s.Heads 0x01 q rest → q.body.length ≤ 32 →
       exec .ping s = .next (s.answered q rest .ok q.body).finish) ∧
     (s.Heads 0x02 q rest → q.body = [] →
       exec .shelfStatus s = .next (State.finish
         { s.answered q rest .ok s.statusBody with
           silence := { s.silence with expired := false }, events := { s.events with lost := false } })) ∧
     (∀ b : Byte, s.Heads 0x13 q rest → q.body = [b] →
       exec .slotQuery s = .next (
         if h : b.toNat < 24 then
           (s.answered q rest .ok (slotQueryBody s.now ⟨b.toNat, h⟩ (s.record ⟨b.toNat, h⟩))).finish
         else (s.answered q rest .range).finish))) ∧
  (∀ (s : State) (q : Request) (rest : List Request), s.Heads 0x05 q rest →
     (q.body = [] → exec .tableRead s = .next (s.answered q rest .malformed).finish) ∧
     ∀ (n : Byte) (l : List Byte), q.body = n :: l →
       (tableOf n = none → exec .tableRead s = .next (s.answered q rest .range).finish) ∧
       ∀ t, tableOf n = some t →
         (l.length ≠ 2 → exec .tableRead s = .next (s.answered q rest .malformed).finish) ∧
         ∀ start count : Byte, l = [start, count] →
           exec .tableRead s = .next (
             if count = 0 ∨ t.entries < start.toNat + count.toNat ∨ 248 < 3 + count.toNat * t.readSize then
               (s.answered q rest .range).finish
             else
               (s.answered q rest .ok
                 (n :: start :: count :: (List.range' start.toNat count.toNat).flatMap (s.readEntry t))).finish))

/-- R185, R103, R70: the checks of TABLE_WRITE in order, each refusing the whole write; a write that passes stores every
entry of its range in index order, with ADJUSTED where a value was brought into range; and a write that reaches any
entry of a plan in use is answered IN_USE once its other checks have passed. A ZONE_PARAM entry has every value brought
into its range, the critical limit last, and changes nothing else of its zone: the parameters in force stand until the
next control period; its last byte, which Table 11-5 gives as 0, is not read, so that a write with any value there is
neither refused nor changed by it, and its limits and cool-done are read as unsigned (both the model's choice, log 26).
A body too short for its fields is MALFORMED, or RANGE where it names no table (the model's choice, log 25). A write is
refused for the values that R58, R102, R139 and R151 name, and for a park-before-cycle that is neither set nor clear
(the model's choice, log 19). PLAN_HEAD and PLAN_STEP entries are brought into Tables 5-1 and 5-2 (R28, R102), profile
segments into Table 3-4 (R58); a profile write is staged for a zone that holds a position, on a copy of the active
profile where none is staged, and made to the active profile otherwise (R59, R60). METRIC, GRADE and CHAN_OFFSET entries
are stored as written, and a BIN_MAP write calls for a pick selection (R151). -/
def Obligations.TableWritesAreCheckedThenStored : Prop :=
  (∀ (s : State) (q : Request) (rest : List Request) (n start count : Byte) (data : List Byte),
     s.Heads 0x04 q rest → q.body = n :: start :: count :: data →
     exec .tableWrite s = .next (State.finish (
       match tableOf n with
       | none => s.answered q rest .range
       | some t =>
         let entries := chunks t.writeSize count.toNat data
         let stored := s.storeEntries t start.toNat entries
         if data.length ≠ count.toNat * t.writeSize then s.answered q rest .malformed
         else if count = 0 ∨ t.entries < start.toNat + count.toNat then s.answered q rest .range
         else if ∃ l ∈ entries, t.refuses l = true then s.answered q rest .range
         else if ∃ k ∈ List.range' start.toNat count.toNat, s.entryInUse t k = true then s.answered q rest .inUse
         else stored.1.answered q rest .ok [] stored.2))) ∧
  (∀ (s : State) (q : Request) (rest : List Request), s.Heads 0x04 q rest → q.body.length < 3 →
     exec .tableWrite s = .next (State.finish (
       if ∃ n, q.body.head? = some n ∧ tableOf n = none then s.answered q rest .range
       else s.answered q rest .malformed))) ∧
  (∀ (s : State) (q : Request) (rest : List Request) (n start count : Byte) (data : List Byte) (t : Table) (k : Nat)
     (p : PlanId) (i : SlotId),
     s.Heads 0x04 q rest → q.body = n :: start :: count :: data → tableOf n = some t →
     data.length = count.toNat * t.writeSize → start.toNat + count.toNat ≤ t.entries →
     (∀ l ∈ chunks t.writeSize count.toNat data, t.refuses l = false) →
     start.toNat ≤ k → k < start.toNat + count.toNat → t.planOf k = some p →
     (s.record i).life = .active → (s.record i).plan = some p →
     exec .tableWrite s = .next (s.answered q rest .inUse).finish) ∧
  ∀ (s : State) (z : BayId) (l : List Byte),
    let p := zoneParamOf l
    let high := max 160 (min 440 p.highLimit)
    let entry : ZoneParam :=
      { p with
        offset0 := max (-32) (min 31 p.offset0), offset1 := max (-32) (min 31 p.offset1)
        band := max 1 (min 40 p.band), highLimit := high
        criticalLimit := max (high + 8) (min 480 p.criticalLimit), coolDone := max 80 (min 240 p.coolDone) }
    (s.storeEntry .zoneParam z.val l =
      ({ s with zones := s.zones.set z.val { s.zone z with entry } }, decide (entry ≠ p))) ∧
    (∀ t : Table, l.length = t.writeSize →
      (t.refuses l = true ↔
        (t = .planHead ∧ (16 < (field l 0).toNat ∨ 1 < (field l 3).toNat)) ∨
        (t = .planStep ∧ (2 < (field l 0).toNat ∨ 2 < (field l 1).toNat ∨ 2 < (field l 4).toNat)) ∨
        (t = .profileHead ∧ 12 < (field l 0).toNat) ∨
        (t = .grade ∧ (1 < (field l 0).toNat ∨ 63 < (field l 3).toNat)) ∨ (t = .binMap ∧ 6 < (field l 0).toNat))) ∧
    (∀ (k : PlanId) (n a b : Byte) (park : Bool), n.toNat ≤ 16 →
      let surge := max 1 (min 50 a.toNat)
      let running := max 1 (min surge b.toNat)
      s.storeEntry .planHead k.val [n, a, b, if park then 1 else 0] =
        ({ s with planHeads := s.planHeads.set k.val { stepCount := n.toNat, surge, running, parkBeforeCycle := park } },
          decide (surge ≠ a.toNat ∨ running ≠ b.toNat))) ∧
    (∀ (k : Fin 128) (kind gate onFail : Fin 3) (wait timeout duration count off on : Fin 65536) (code : Byte)
       (argument : BitVec 32),
      let e : PlanStep :=
        { kind := #v[StepKind.drive, .dwell, .cycle][kind.val], gate := #v[Gate.none, .band, .hold][gate.val]
          gateWait := wait.val, onFail := #v[OnFail.next, .endPlan, .reject][onFail.val], testCode := code, argument
          timeout := max 1 timeout.val, duration := max 1 duration.val, cycleCount := max 1 (min 1000 count.val)
          offTime := max 1 (min 600 off.val), onTime := max 5 (min 3600 on.val) }
      s.storeEntry .planStep k.val
          ([byte kind.val, byte gate.val] ++ be 2 wait.val ++ [byte onFail.val, code] ++ be 4 argument.toNat ++
            be 2 timeout.val ++ be 2 duration.val ++ be 2 count.val ++ be 2 off.val ++ be 2 on.val) =
        ({ s with planSteps := s.planSteps.set k.val e },
          decide (e.timeout ≠ timeout.val ∨ e.duration ≠ duration.val ∨ e.cycleCount ≠ count.val ∨ e.offTime ≠ off.val ∨
            e.onTime ≠ on.val))) ∧
    (let written := fun f : Profile → Profile =>
       ({ s with
          zones := s.zones.set z.val
            (if (s.zone z).position = none then { s.zone z with active := f (s.zone z).active }
            else { s.zone z with staged := some (f ((s.zone z).staged.getD (s.zone z).active)) }) } : State)
     (∀ n loops : Byte, n.toNat ≤ 12 →
       s.storeEntry .profileHead z.val [n, loops] =
         (written fun f => { f with segmentCount := n.toNat, loopCount := loops.toNat }, false)) ∧
     ∀ (k : Fin 12) (target : BitVec 16) (rate : Byte) (hold : Fin 65536),
       let g : Segment :=
         { target := max 80 (min 320 target.toInt), rate := min 40 rate.toNat, hold := hold.val }
       s.storeEntry .profileSeg (z.val * 12 + k.val) (be 2 target.toNat ++ [rate] ++ be 2 hold.val) =
         (written fun f => { f with segments := f.segments.set k.val g },
           decide (g.target ≠ target.toInt ∨ g.rate ≠ rate.toNat))) ∧
    (∀ (k : Fin 6) (allowance limit : Fin 65536) (weight : Byte),
      s.storeEntry .metric k.val (be 2 allowance.val ++ [weight] ++ be 2 limit.val) =
        ({ s with
            metricTable := s.metricTable.set k.val
              { allowance := allowance.val, weight := weight.toNat, rejectLimit := limit.val } }, false)) ∧
    (∀ (k : Fin 8) (enabled : Bool) (ceiling : Fin 65536) (required : BitVec 6),
      s.storeEntry .grade k.val ([if enabled then 1 else 0] ++ be 2 ceiling.val ++ [required.zeroExtend 8]) =
        ({ s with gradeTable := s.gradeTable.set k.val { enabled, ceiling := ceiling.val, required } }, false)) ∧
    (∀ k : BinId, s.storeEntry .binMap k.val [6] =
        ({ s with binMap := s.binMap.set k.val .hold, pickDue := true }, false) ∧
      ∀ d : LaneId, s.storeEntry .binMap k.val [byte d.val] =
        ({ s with binMap := s.binMap.set k.val (.lane d), pickDue := true }, false)) ∧
    ∀ (k : Fin 48) (b : Byte),
      s.storeEntry .chanOffset k.val [b] = ({ s with offsets := s.offsets.set k.val b.toInt }, false)

/-- R187, R29, R48, R99, Tables 10-4 and 4-1: SHELF_CONFIG refuses an autostart or a dark mask that names nothing, then
a budget below the reserved sum; else it stores every present setting, brought into its range, keeps the others, holds
the dark count of every masked slot at 0 where it carried a mask, and calls for an admission run where it raised the
budget. -/
def Obligations.ShelfConfigIsCheckedThenStored : Prop :=
  ∀ (s : State) (q : Request) (rest : List Request), s.Heads 0x03 q rest → settingsFit q.body = true →
    let widths := [2, 1, 2, 1, 1, 2, 2, 2, 2, 4, 1, 2, 1, 1, 1, 1, 1]
    let ranges : List (Nat × Nat) :=
      [(50, 1000), (0, 255), (10, 600), (1, 60), (1, 255), (1, 4094), (1, 4094), (1, 4094), (0, 4094), (0, 4294967295),
        (2, 100), (5, 600), (0, 7), (1, 16), (1, 120), (5, 100), (5, 120)]
    let written := settingValues (unbe (q.body.take 3)) 0 widths (q.body.drop 3)
    let v := (written.zip ranges).map fun (x, lo, hi) => x.map fun n => max lo (min hi n)
    let now := fun (k old : Nat) => (present v k).getD old
    let g : Settings :=
      { presenceGuard := now 0 s.settings.presenceGuard
        autostart := match present v 1 with
          | some a => if h : a < 8 then some ⟨a, h⟩ else none
          | none => s.settings.autostart
        budget := now 2 s.settings.budget, spinupTimeout := now 3 s.settings.spinupTimeout
        readyGuard := now 4 s.settings.readyGuard, surgeCeiling := now 5 s.settings.surgeCeiling
        runCeiling := now 6 s.settings.runCeiling, fiveCeiling := now 7 s.settings.fiveCeiling
        darkThreshold := now 8 s.settings.darkThreshold
        darkMask := ((present v 9).map (BitVec.ofNat 24)).getD s.settings.darkMask
        replyWait := now 10 s.settings.replyWait, pollInterval := now 11 s.settings.pollInterval
        retryLimit := now 12 s.settings.retryLimit, quantum := now 13 s.settings.quantum
        spinDownWait := now 14 s.settings.spinDownWait, offerTime := now 15 s.settings.offerTime
        carryTime := now 16 s.settings.carryTime }
    exec .shelfConfig s = .next (State.finish (
      if (∃ a, present written 1 = some a ∧ 8 ≤ a ∧ a ≠ 255) ∨ (∃ m, present written 9 = some m ∧ 2 ^ 24 ≤ m) then
        s.answered q rest .range
      else if ∃ b, present v 2 = some b ∧ b < s.reservedSum then s.answered q rest .inUse
      else
        { s.answered q rest .ok [] (v != written) with
          settings := g
          slots := Vector.ofFn fun i : Fin 24 =>
            if (present v 9).isSome = true ∧ g.darkMask.getLsbD i.val = true then
              { s.slot i with power := { s.power i with dark := 0 } }
            else s.slot i
          admissionDue := s.admissionDue || decide (s.settings.budget < g.budget) }))

/-- R188, R189, R191: an offered event whose class is disabled is discarded with no number; else it takes the next
number, which rises by 1 and wraps from 255 to 0, and joins the tail of the event queue, or, where the queue holds 32,
is lost with the events-lost flag set. EVENT_CONFIG replaces all nine enables, and a value that is neither set nor
clear refuses it with RANGE; events already queued stay. SILENCE_CONFIG is refused LOCKED while LOCKED and RANGE for
another lock field; else it stores a present period, brought into 1 to 600 s, restarts the timer in RUN with the
period now in force, and locks where asked. A period mark that is neither set nor clear is refused with RANGE (log
19). -/
def Obligations.EventAndSilenceConfigStore : Prop :=
  (∀ (p : EventPort) (e : Event),
     let next : Byte := BitVec.ofNat 8 ((p.next.toNat + 1) % 256)
     (p.takes e = false → p.offer e = p) ∧
     (p.takes e = true → p.queue.length < 32 → p.offer e = { p with queue := p.queue ++ [(p.next, e)], next := next }) ∧
     (p.takes e = true → 32 ≤ p.queue.length → p.offer e = { p with next := next, lost := true })) ∧
  (∀ (s : State) (q : Request) (rest : List Request) (a b c d e f g h i : Byte),
     s.Heads 0x06 q rest → q.body = [a, b, c, d, e, f, g, h, i] →
     exec .eventConfig s = .next (State.finish (
       if ∀ x ∈ q.body, x = 0 ∨ x = 1 then
         { s.answered q rest .ok with
           events := { s.events with
             enables :=
               { slot := a == 1, fault := b == 1, grade := c == 1, zone := d == 1, transfer := e == 1, lane := f == 1,
                 diag := g == 1, snapshot := h == 1, supervision := i == 1 } } }
       else s.answered q rest .range))) ∧
  (∀ (s : State) (q : Request) (rest : List Request) (given hi lo lock : Byte),
     s.Heads 0x07 q rest → q.body = [given, hi, lo, lock] →
     let written := hi.toNat * 256 + lo.toNat
     let period := if given = 1 then max 1 (min 600 written) else s.silence.period
     exec .silenceConfig s = .next (State.finish (
       if s.silence.mode = .locked then s.answered q rest .locked
       else if lock ≠ 0 ∧ lock ≠ 1 then s.answered q rest .range
       else if given ≠ 0 ∧ given ≠ 1 then s.answered q rest .range
       else
         { s.answered q rest .ok [] (given == 1 && period != written) with
           silence := { s.silence with
             period := period
             mode := if lock = 1 then .locked else .open
             timer := if s.mode = .run then some (s.now + period * 1000) else s.silence.timer } })))

/-- R192, R190, R108: entering SAFE, by SHELF_STOP or by the silence timer, sets the mode, stops the timer, sets the
silence-expired flag, withdraws the heat of every zone at once, freezes every gate timer with the time it has left,
and offers one SUPERVISION event. SHELF_STOP in SAFE sets the flag alone. A silence timer that does not run cannot
expire (log 4). -/
def Obligations.SafeIsEnteredAtOnce : Prop :=
  ∀ (s : State),
    let frozen := fun now => Vector.ofFn fun i : Fin 24 =>
      if s.inPhase i .waitGate = true then
        { s.slot i with
          record := { s.record i with
            position := (s.record i).position.map fun p => { p with timer := p.timer.freeze now } } }
      else s.slot i
    (∀ (q : Request) (rest : List Request), s.Heads 0x08 q rest → q.body = [] →
      exec .shelfStop s = .next (State.finish (
        if s.mode = .run then
          { s.answered q rest .ok with
            mode := .safe
            silence := { s.silence with timer := none, expired := true }
            zones := s.zones.map Zone.withdrawn
            slots := frozen s.now
            events := s.events.offer (.supervision .stopped) }
        else { s.answered q rest .ok with silence := { s.silence with expired := true } }))) ∧
    (∀ d, s.silence.timer = some d →
      exec .silenceExpired s = .next (State.finish
        { s with
          now := max s.now d
          mode := .safe
          silence := { s.silence with timer := none, expired := true }
          zones := s.zones.map Zone.withdrawn
          slots := frozen (max s.now d)
          events := s.events.offer (.supervision .silenceExpired) })) ∧
    (s.silence.timer = none → exec .silenceExpired s = .next s)

/-- R193, R107, R108, R109, R113, R123: in RUN, SHELF_RESUME only answers. In SAFE it sets RUN, starts the timer, offers
RESUMED before any other event, calls for an admission run and a pick selection, and gives zones outside RAMP and HOLD
their RUN duties while zones in them keep theirs (log 22). A slot with no step waiting is untouched; a gate still unmet
has its timer resumed. A step in BETWEEN is judged, and one that waits for a gate now met begins, as `StepJudged` says in
RUN: with a gate and a report of OFF or COOL it is SKIPPED, with a gate that another report does not meet it waits for it
with its gate wait limit; a DWELL step is RUNNING with its duration; a CYCLE step at cycle 1 in CYCLE_OFF; a DRIVE step
fails LINK where the link is LOST, and else is STARTING, with RUN_TEST handed over, or deferred behind the message
outstanding. A message handed over takes the reserved place, and a frame in flight that held it is marked removed (R81).
-/
def Obligations.ShelfResumeReturnsToRun : Prop :=
  ∀ (s : State) (q : Request) (rest : List Request), s.Heads 0x09 q rest → q.body = [] →
    (s.mode = .run → exec .shelfResume s = .next (s.answered q rest .ok).finish) ∧
    (s.mode = .safe →
      ∃ slots events admission dispatch buses, exec .shelfResume s = .next (State.finish
        { s.answered q rest .ok with
          mode := .run
          silence := { s.silence with timer := some (s.now + s.silence.period * 1000) }
          zones := s.zones.map fun z =>
            if z.state.runs = true then z else { z with heater := (z.duties .run).1, fan := (z.duties .run).2 }
          slots, events, admission, dispatch, buses
          admissionDue := true
          pickDue := true }) ∧
      (s.events.offer (.supervision .resumed)).OfferedTo events ∧
      ∀ i : SlotId,
        let e := s.slotStep i
        let meets := (s.slotReport i).meets e.gate = true
        let begins :=
          (s.inPhase i .waitGate = true ∧ meets) ∨ (s.inPhase i .between = true ∧ (e.gate = .none ∨ meets))
        (s.NotWaiting i → slots[i.val] = s.slot i) ∧
        (s.inPhase i .waitGate = true → ¬ meets →
          slots[i.val] =
            { s.slot i with
              record := { s.record i with
                position := (s.record i).position.map fun p => { p with timer := p.timer.thaw s.now } } }) ∧
        (s.inPhase i .between = true ∨ (s.inPhase i .waitGate = true ∧ meets) →
          State.StepJudged { s with mode := .run } i (slots[i.val])) ∧
        (begins → (s.record i).link = .ok → (s.run i).outstanding = none →
          e.kind = .drive ∨ (e.kind = .cycle ∧ (s.slotHead i).parkBeforeCycle = true) → OneReserved (s.slotBus i).queue →
          ∀ w, s.slotWindow i = some w → (buses[(bayOf i).val]).window = some (w.displaced (s.slotBus i).queue)))

/-! ### Requests about slots -/

/-- R18, R19: the checks of SLOT_START in order, and the start: plan, priority and the run's amounts written, LINK and
PCYC at 0, ACTIVE and QUEUED, its SLOT event, its admission entry at the tail of its level, an admission run called
for. -/
def Obligations.SlotStartIsCheckedThenStarts : Prop :=
  ∀ (s : State) (q : Request) (rest : List Request) (b plan priority : Byte),
    s.Heads 0x10 q rest → q.body = [b, plan, priority] →
    exec .slotStart s = .next (State.finish (
      if hb : b.toNat < 24 then
        let i : SlotId := ⟨b.toNat, hb⟩
        if hp : plan.toNat < 8 ∧ priority.toNat < 4 then
          let p : PlanId := ⟨plan.toNat, hp.1⟩
          if (s.record i).life ≠ .seated then s.answered q rest .state
          else if (s.planHead p).stepCount = 0 then s.answered q rest .state
          else if (s.zone (bayOf i)).state = .shutdown then s.answered q rest .state
          else (s.answered q rest .ok).started i (s.slot i) p ⟨priority.toNat, hp.2⟩ .started
        else s.answered q rest .range
      else s.answered q rest .range))

/-- R21, R22: SLOT_ABORT checks the slot, then the disposition. EMPTY, RESERVED and UNLOADING refuse it with STATE; a
SEATED slot goes to HELD, or is graded REJECT and placed by the bin map; a PARKING slot keeps parking with its new
disposition or grade; a DISPATCH slot leaves the queue for HELD, unless its pick is offered. HELD and FAULTED refuse
HOLD; by REJECT they are graded REJECT, FORCED ABORTED, and parked with power phase OFF; the spin-down wait counts
from the recorded power-off time, and where it has run, or none is recorded, the slot is placed by the bin map in the
same event. -/
def Obligations.SlotAbortOutsideARunActs : Prop :=
  (∀ (s : State) (q : Request) (rest : List Request) (b d : Byte), s.Heads 0x11 q rest → q.body = [b, d] →
     (24 ≤ b.toNat ∨ 1 < d.toNat → exec .slotAbort s = .next (s.answered q rest .range).finish) ∧
     ∀ (hb : b.toNat < 24),
       let i : SlotId := ⟨b.toNat, hb⟩
       let t := s.answered q rest .ok
       let hold : Slot := { s.slot i with record := { s.record i with disposition := some .hold } }
       let reject : Slot :=
         ({ s.slot i with record := { s.record i with disposition := some .reject } } : Slot).gradedBy s (some .aborted)
       let graded := s.events.offer (s.gradedEvent i (some .aborted))
       let queue := s.dispatch.queue.filter fun e => e.slot != i
       ((s.record i).life = .empty ∨ (s.record i).life = .reserved ∨ (s.record i).life = .unloading → d.toNat ≤ 1 →
         exec .slotAbort s = .next (s.answered q rest .state).finish) ∧
       ((s.record i).life = .held ∨ (s.record i).life = .faulted → d = 0 →
         exec .slotAbort s = .next (s.answered q rest .state).finish) ∧
       ((s.record i).life = .seated → d = 0 →
         exec .slotAbort s = .next (State.finish
           { t with
             slots := s.slotsWith i (hold.become .held none (some .aborted))
             events := s.events.offer (.slot i .seated .held .aborted) })) ∧
       ((s.record i).life = .seated → d = 1 →
         exec .slotAbort s = .next
           (State.placed { t with events := graded } i reject .aborted .binHold).finish) ∧
       ((s.record i).life = .parking → d = 0 →
         exec .slotAbort s = .next (State.finish { t with slots := s.slotsWith i hold })) ∧
       ((s.record i).life = .parking → d = 1 →
         exec .slotAbort s = .next (State.finish { t with slots := s.slotsWith i reject, events := graded })) ∧
       ((s.record i).life = .dispatch → s.isOffered i = true → d.toNat ≤ 1 →
         exec .slotAbort s = .next (s.answered q rest .inUse).finish) ∧
       ((s.record i).life = .dispatch → s.isOffered i = false → d = 0 →
         exec .slotAbort s = .next (State.finish
           { t with
             slots := s.slotsWith i (hold.become .held none (some .aborted))
             dispatch := { s.dispatch with queue }
             events := s.events.offer (.slot i .dispatch .held .aborted) })) ∧
       ((s.record i).life = .dispatch → s.isOffered i = false → d = 1 →
         exec .slotAbort s = .next (State.finish
           { t with
             slots := s.slotsWith i (reject.become .held none (some .aborted))
             dispatch := { s.dispatch with queue }
             events := graded.offer (.slot i .dispatch .held .aborted) }))) ∧
  (∀ (s : State) (q : Request) (rest : List Request) (b : Byte) (hb : b.toNat < 24),
     let i : SlotId := ⟨b.toNat, hb⟩
     s.Heads 0x11 q rest → q.body = [b, 1] → (s.record i).life = .held ∨ (s.record i).life = .faulted →
     let reject : Slot :=
       ({ s.slot i with record := { s.record i with disposition := some .reject } } : Slot).gradedBy s (some .aborted)
     let parked : Slot :=
       ({ reject with record := { reject.record with powerPhase := some .off } } : Slot).become .parking
     let events := (s.events.offer (s.gradedEvent i (some .aborted))).offer (.slot i (s.record i).life .parking .aborted)
     let ends := fun t0 : Nat => t0 + s.settings.spinDownWait * 1000
     (∀ t0, (s.record i).powerOffAt = some t0 → s.now < ends t0 →
       exec .slotAbort s = .next (State.finish
         { s.answered q rest .ok with
           slots := s.slotsWith i
             { parked with run := { (s.run i) with stage := .spinDown, spinDown := some (ends t0) } }
           events })) ∧
     ((s.record i).powerOffAt = none ∨ (∃ t0, (s.record i).powerOffAt = some t0 ∧ ends t0 ≤ s.now) →
       exec .slotAbort s = .next
         (State.placed { s.answered q rest .ok with events } i
           { parked with run := { (s.run i) with stage := .spinDown } } .spunDown .binHold).finish))

/-- R21, R119: SLOT_ABORT of an ACTIVE slot writes the disposition, fails the begun step ABORTED, ends a pending
snapshot and, for REJECT, grades the slot REJECT, FORCED ABORTED. A QUEUED slot leaves the admission queue for HELD,
or for where the bin map sends REJECT. A slot in ON with its link OK parks with PARK_WAIT. Any other has its rails off
and is PARKING in SPIN_DOWN until the spin-down wait has run from its power-off time, now where it was powered; where
it has run already, or no power-off time is recorded, the slot goes at once to HELD, or where the bin map sends REJECT.
Other slots keep their runs and life states. -/
def Obligations.SlotAbortOfARun : Prop :=
  ∀ (s : State) (q : Request) (rest : List Request) (b d : Byte) (hb : b.toNat < 24) (disposition : Disposition),
    let i : SlotId := ⟨b.toNat, hb⟩
    let offAt := if s.powered i = true then some s.now else (s.record i).powerOffAt
    let ends := fun t0 : Nat => t0 + s.settings.spinDownWait * 1000
    let leaves := fun t : State =>
      (disposition = .hold → (t.record i).life = .held ∧ (t.record i).hold = some .aborted) ∧
      (disposition = .reject → s.destination binReject = .hold →
        (t.record i).life = .held ∧ (t.record i).hold = some .binHold) ∧
      (disposition = .reject → s.destination binReject ≠ .hold →
        (t.record i).life = .dispatch ∧ i ∈ t.dispatch.queue.map DispatchEntry.slot)
    s.Sound → s.Heads 0x11 q rest → q.body = [b, d] → dispositionOf d = some disposition →
    (s.record i).life = .active →
    ∃ t, exec .slotAbort s = .next t ∧
      (t.record i).disposition = some disposition ∧ (t.record i).snapshot = false ∧
      (t.record i).outcomes =
        (s.record i).outcomes ++
          (if s.stepBegun i = true then [{ index := s.stepIndex i, outcome := .failed .aborted }] else []) ∧
      (disposition = .hold → (t.record i).grade = (s.record i).grade) ∧
      (disposition = .reject →
        (t.record i).grade.map (fun g => (g.bin, g.reason)) = some (binReject, .forced .aborted)) ∧
      ((s.record i).powerPhase = some .queued →
        i ∉ t.waiting.map AdmissionEntry.slot ∧
        leaves t) ∧
      ((s.record i).powerPhase = some .on → (s.record i).link = .ok →
        (t.record i).life = .parking ∧ (t.run i).stage = .parkWait ∧ (t.power i).rails = true) ∧
      ((s.record i).powerPhase ≠ some .queued → (s.record i).powerPhase ≠ some .on ∨ (s.record i).link = .lost →
        (t.power i).rails = false ∧ (t.record i).reserved = 0 ∧ (t.record i).powerOffAt = offAt ∧
        (∀ t0, offAt = some t0 → s.now < ends t0 →
          (t.record i).life = .parking ∧ (t.record i).powerPhase = some .off ∧ (t.run i).stage = .spinDown ∧
            (t.run i).spinDown = some (ends t0)) ∧
        (offAt = none ∨ (∃ t0, offAt = some t0 ∧ ends t0 ≤ s.now) → leaves t)) ∧
      ∀ j, j ≠ i → t.run j = s.run j ∧ t.slotBus j = s.slotBus j ∧ (t.record j).life = (s.record j).life

/-- R23, R20, R120: SLOT_RESTART of a HELD or FAULTED slot makes its record fresh and the slot SEATED, and autostart
is considered; in every other life state it is refused with STATE. SLOT_SNAPSHOT is refused RANGE above 23, STATE
outside ACTIVE and IN_USE while one is pending; else it sets snapshot pending and nothing more. -/
def Obligations.SlotRestartAndSnapshotAct : Prop :=
  (∀ (s : State) (q : Request) (rest : List Request) (b : Byte), s.Heads 0x12 q rest → q.body = [b] →
     (24 ≤ b.toNat → exec .slotRestart s = .next (s.answered q rest .range).finish) ∧
     ∀ hb : b.toNat < 24,
       let i : SlotId := ⟨b.toNat, hb⟩
       ((s.record i).life ≠ .held → (s.record i).life ≠ .faulted →
         exec .slotRestart s = .next (s.answered q rest .state).finish) ∧
       ((s.record i).life = .held ∨ (s.record i).life = .faulted →
         ∃ t, exec .slotRestart s = .next t.finish ∧
           (s.answered q rest .ok).seatedNow i ((s.slot i).freshAs .seated) (s.record i).life .restarted t)) ∧
  (∀ (s : State) (q : Request) (rest : List Request) (b : Byte), s.Heads 0x14 q rest → q.body = [b] →
     exec .slotSnapshot s = .next (State.finish (
       if hb : b.toNat < 24 then
         let i : SlotId := ⟨b.toNat, hb⟩
         if (s.record i).life ≠ .active then s.answered q rest .state
         else if (s.record i).snapshot = true then s.answered q rest .inUse
         else
           { s.answered q rest .ok with
             slots := s.slotsWith i { s.slot i with record := { s.record i with snapshot := true } } }
       else s.answered q rest .range)))

/-- R82: the checks of DIAG_SEND in order, and its effect: the RAW frame joins the tail of the slot's outbound queue
with the request's tag. A body without a slot or a kind is MALFORMED (log 25). -/
def Obligations.DiagSendQueuesARawFrame : Prop :=
  ∀ (s : State) (q : Request) (rest : List Request), s.Heads 0x15 q rest →
    (q.body = [] → exec .diagSend s = .next (s.answered q rest .malformed).finish) ∧
    ∀ (b : Byte) (l : List Byte), q.body = b :: l →
      (24 ≤ b.toNat → exec .diagSend s = .next (s.answered q rest .range).finish) ∧
      ∀ hb : b.toNat < 24,
        let i : SlotId := ⟨b.toNat, hb⟩
        (l = [] → exec .diagSend s = .next (s.answered q rest .malformed).finish) ∧
        ∀ (kind : Byte) (data : List Byte), l = kind :: data →
          exec .diagSend s = .next (State.finish (
            if 60 < data.length then s.answered q rest .malformed
            else if (1 ≤ kind.toNat ∧ kind.toNat ≤ 6) ∨ 128 ≤ kind.toNat then s.answered q rest .range
            else if s.powered i = false then s.answered q rest .state
            else if 3 ≤ ((s.slotBus i).queue.filter fun f => !f.reserved).length then s.answered q rest .full
            else
              { s.answered q rest .ok with
                slots := s.slotsWith i
                  { s.slot i with
                    bus := { s.slotBus i with queue := (s.slotBus i).queue ++ [.raw kind data q.tag] } } }))

/-! ### Requests about zones -/

/-- R62, R63, R65, R73, R57, R61: ZONE_START is refused with STATE in SHUTDOWN, RAMP, HOLD and SENSOR_FAULT and for an
empty profile; else the zone begins segment 0, loop 1, from 60 times its latest temperature, in HOLD at once where
that is the target or the rate is 0 (no temperature formed yet: a free value, log 10). ZONE_STOP is refused with STATE
in SHUTDOWN; else it discards the position and makes a staged profile active, and cools: from OFF, RAMP or HOLD the
zone enters COOL, in COOL nothing more happens, in SENSOR_FAULT the remembered state becomes COOL. ZONE_CLEAR is
refused with STATE outside SHUTDOWN, without a temperature, and at or above the high limit; else the zone enters OFF.
-/
def Obligations.ZoneRequestsChangeTheZone : Prop :=
  (∀ (s : State) (q : Request) (rest : List Request) (b : Byte), s.Heads 0x20 q rest → q.body = [b] →
     (4 ≤ b.toNat → exec .zoneStart s = .next (s.answered q rest .range).finish) ∧
     ∀ hb : b.toNat < 4,
       let z : BayId := ⟨b.toNat, hb⟩
       let x := s.zone z
       let startable := (x.state = .off ∨ x.state = .cool) ∧ x.active.segmentCount ≠ 0
       let g := x.active.segment 0
       let acc := 60 * x.temperature.getD (Config.unreadTemperature z.val s.now)
       let y : Zone :=
         if acc = 60 * g.target ∨ g.rate = 0 then
           { x with
             state := .hold
             position := some { segment := 0, loop := 1, acc := 60 * g.target, holdLeft := max 1 (60 * g.hold) } }
         else { x with state := .ramp, position := some { segment := 0, loop := 1, acc, holdLeft := 0 } }
       (¬ startable → exec .zoneStart s = .next (s.answered q rest .state).finish) ∧
       (startable → ∃ t, exec .zoneStart s = .next t.finish ∧ (s.answered q rest .ok).ZoneChange z y .started t)) ∧
  (∀ (s : State) (q : Request) (rest : List Request) (b : Byte), s.Heads 0x21 q rest → q.body = [b] →
     (4 ≤ b.toNat → exec .zoneStop s = .next (s.answered q rest .range).finish) ∧
     ∀ hb : b.toNat < 4,
       let z : BayId := ⟨b.toNat, hb⟩
       let x := s.zone z
       let y : Zone := { x with position := none, active := x.staged.getD x.active, staged := none }
       (x.state = .shutdown → exec .zoneStop s = .next (s.answered q rest .state).finish) ∧
       (x.state = .off ∨ x.state = .ramp ∨ x.state = .hold →
         ∃ t, exec .zoneStop s = .next t.finish ∧
           (s.answered q rest .ok).ZoneChange z { y with state := .cool } .stopped t) ∧
       (x.state = .cool →
         exec .zoneStop s = .next (State.finish { s.answered q rest .ok with zones := s.zones.set z.val y })) ∧
       (x.state = .sensorFault →
         exec .zoneStop s = .next (State.finish
           { s.answered q rest .ok with zones := s.zones.set z.val { y with left := .cool } }))) ∧
  (∀ (s : State) (q : Request) (rest : List Request) (b : Byte), s.Heads 0x22 q rest → q.body = [b] →
     (4 ≤ b.toNat → exec .zoneClear s = .next (s.answered q rest .range).finish) ∧
     ∀ hb : b.toNat < 4,
       let z : BayId := ⟨b.toNat, hb⟩
       let x := s.zone z
       let clearable := x.state = .shutdown ∧ ∃ t, x.temperature = some t ∧ t < (x.param.highLimit : Int)
       (¬ clearable → exec .zoneClear s = .next (s.answered q rest .state).finish) ∧
       (clearable →
         ∃ t, exec .zoneClear s = .next t.finish ∧
           (s.answered q rest .ok).ZoneChange z { x with state := .off } .cleared t))

/-! ### Lanes, dispatch and the manifest -/

/-- R159, R158: DISPATCH_ENABLE sets the enable and calls for a pick selection, or clears it; any other setting is
refused with RANGE; while it is clear no pick is offered; it is clear at power-on and survives a warm reset. The
checks of DISPATCH_WITHDRAW in order, and its effect: the entry leaves the queue and the slot becomes HELD, reason
WITHDRAWN, its grade kept, in either mode, enabled or not, stalled or not, and no pick selection is called for. -/
def Obligations.DispatchRequestsEnableAndWithdraw : Prop :=
  ((∀ (s : State) (q : Request) (rest : List Request) (b : Byte), s.Heads 0x28 q rest → q.body = [b] →
     exec .dispatchEnable s = .next (State.finish (
       if b = 1 then
         { s.answered q rest .ok with dispatch := { s.dispatch with enabled := true }, pickDue := true }
       else if b = 0 then { s.answered q rest .ok with dispatch := { s.dispatch with enabled := false } }
       else s.answered q rest .range))) ∧
   (∀ s : State, s.dispatch.enabled = false → s.pickSelection = s) ∧
   (∀ reads s t, exec (.powerOnReset reads) s = .next t → t.dispatch.enabled = false) ∧
   ∀ cause reads s t, exec (.warmReset cause reads) s = .next t → t.dispatch.enabled = s.dispatch.enabled) ∧
  (∀ (s : State) (q : Request) (rest : List Request) (b : Byte), s.Heads 0x29 q rest → q.body = [b] →
     exec .dispatchWithdraw s = .next (State.finish (
       if hb : b.toNat < 24 then
         let i : SlotId := ⟨b.toNat, hb⟩
         if (s.record i).life ≠ .dispatch then s.answered q rest .state
         else if s.isOffered i = true then s.answered q rest .inUse
         else
           { s.answered q rest .ok with
             slots := s.slotsWith i ((s.slot i).become .held none (some .withdrawn))
             dispatch := { s.dispatch with queue := s.dispatch.queue.filter fun e => e.slot != i }
             events := s.events.offer (.slot i .dispatch .held .withdrawn) }
       else s.answered q rest .range)))

/-- R155, R153: LANE_CLOSE and LANE_OPEN are refused with RANGE above 5 and else answered OK. LANE_CLOSE makes the
lane CLOSED, with its LANE event where it was not. LANE_OPEN gives a CLOSED lane the state its count gives, with its
LANE event and, where it ends OPEN, a pick selection; it changes nothing on another lane. A capacity written is
brought into 1 to 60 and then up to the lane's floor; a CLOSED lane stays CLOSED, another takes the state its count
gives it, with one LANE event where that changes and a pick selection where it becomes OPEN. -/
def Obligations.LanesOpenCloseAndTakeCapacity : Prop :=
  (∀ (s : State) (q : Request) (rest : List Request) (b : Byte), q.body = [b] →
     (s.Heads 0x2B q rest → exec .laneClose s = .next (State.finish (
       if hb : b.toNat < 6 then
         let l : LaneId := ⟨b.toNat, hb⟩
         let y : Lane := { s.lane l with state := .closed }
         if (s.lane l).state = .closed then s.answered q rest .ok
         else
           { s.answered q rest .ok with
             lanes := s.lanes.set l.val y, events := s.events.offer (.lane l .closed (s.lane l).state y) }
       else s.answered q rest .range))) ∧
     (s.Heads 0x2A q rest → exec .laneOpen s = .next (State.finish (
       if hb : b.toNat < 6 then
         let l : LaneId := ⟨b.toNat, hb⟩
         let opens := (s.lane l).count < (s.lane l).capacity
         let y : Lane := { s.lane l with state := if opens then .open else .full }
         if (s.lane l).state ≠ .closed then s.answered q rest .ok
         else
           { s.answered q rest .ok with
             lanes := s.lanes.set l.val y
             events := s.events.offer (.lane l .opened .closed y)
             pickDue := s.pickDue || decide opens }
       else s.answered q rest .range)))) ∧
  (∀ (s : State) (l : LaneId) (b : Byte),
     let x := s.lane l
     let c := max (s.laneFloor l) (max 1 (min 60 b.toNat))
     let y : Lane :=
       { x with
         capacity := c
         state := if x.state = .closed then .closed else if x.count < c then .open else .full }
     s.storeEntry .lane l.val [b] =
       (if y.state = x.state then { s with lanes := s.lanes.set l.val y }
         else
           { s with
             lanes := s.lanes.set l.val y
             events := s.events.offer (.lane l .capacity x.state y)
             pickDue := s.pickDue || decide (y.state = .open) },
        decide (c ≠ b.toNat)))

/-- R154, R167: TOTE_IN and TOTE_OUT are answered NAK, RANGE for a lane above 5 and else acknowledged in every
transfer state and shelf mode. TOTE_OUT closes the lane and keeps its count and tote sequence, with its LANE event
where it was not CLOSED. TOTE_IN brings the count to 0, raises the tote sequence, wrapping, and opens the lane, with
its LANE event always and a pick selection. -/
def Obligations.TotesComeAndGo : Prop :=
  ∀ (s : State) (tag b : Byte),
    exec (.toteOut tag b) s = .next (State.finish (
      if hb : b.toNat < 6 then
        let l : LaneId := ⟨b.toNat, hb⟩
        let y : Lane := { s.lane l with state := .closed }
        let t := s.tells (.ack 0x47 tag)
        if (s.lane l).state = .closed then t
        else { t with lanes := s.lanes.set l.val y, events := s.events.offer (.lane l .toteOut (s.lane l).state y) }
      else s.tells (.nak 0x47 .range tag))) ∧
    exec (.toteIn tag b) s = .next (State.finish (
      if hb : b.toNat < 6 then
        let l : LaneId := ⟨b.toNat, hb⟩
        let y : Lane :=
          { s.lane l with count := 0, toteSequence := ((s.lane l).toteSequence + 1) % 65536, state := .open }
        { s.tells (.ack 0x46 tag) with
          lanes := s.lanes.set l.val y
          events := s.events.offer (.lane l .toteIn (s.lane l).state y)
          pickDue := true }
      else s.tells (.nak 0x46 .range tag)))

/-- R163: MANIFEST_TAKE is refused with RANGE above 48; else it removes from the head of the manifest the fewest of n,
the records held and six, and answers the records removed, oldest first, with the number that remain and the next
record number, in either mode and every transfer state. A take that removes a record calls for a pick selection. -/
def Obligations.ManifestTakeRemovesTheOldest : Prop :=
  ∀ (s : State) (q : Request) (rest : List Request) (b : Byte), s.Heads 0x2C q rest → q.body = [b] →
    let m := s.dispatch.manifest
    let k := min b.toNat (min m.length 6)
    exec .manifestTake s = .next (State.finish (
      if 48 < b.toNat then s.answered q rest .range
      else
        { s.answered q rest .ok (manifestBody (m.take k) (m.length - k) s.dispatch.nextRecord) with
          dispatch := { s.dispatch with manifest := m.drop k }
          pickDue := s.pickDue || decide (0 < k) }))

/-! ### Transfers -/

/-- R174, R175: HANDLER_RESUME is refused with STATE in AWAITING_CONFIRM; in every other state it is answered OK in
either mode, and a STALLED flag is cleared with a pick selection in the same event; a clear flag changes nothing. The
checks of TRANSFER_CONFIRM in order, and its three outcomes for a graded slot in UNLOADING: IN_TOTE books the drive
with its confirmed mark and empties the slot, IN_SLOT sends it where the bin map says, LOST empties it or, with a
drive seen, faults it; in each the record becomes IDLE with the TRANSFER event CONFIRMED and a pick selection. -/
def Obligations.StallsAndCarriesAreSettledByTheHost : Prop :=
  (∀ (s : State) (q : Request) (rest : List Request), s.Heads 0x30 q rest → q.body = [] →
     exec .handlerResume s = .next (State.finish (
       if s.handler.transfer.state = .awaitingConfirm then s.answered q rest .state
       else if s.dispatch.stall = none then s.answered q rest .ok
       else { s.answered q rest .ok with dispatch := { s.dispatch with stall := none }, pickDue := true }))) ∧
  (∀ (s : State) (q : Request) (rest : List Request) (b : Byte), s.Heads 0x31 q rest → q.body = [b] →
     (2 < b.toNat → exec .transferConfirm s = .next (s.answered q rest .range).finish) ∧
     (b.toNat ≤ 2 → s.handler.transfer.state ≠ .awaitingConfirm →
       exec .transferConfirm s = .next (s.answered q rest .state).finish) ∧
     ∀ (i : SlotId) (l : LaneId) (start : Nat), s.handler.transfer = .pick .awaitingConfirm i l start →
       (s.record i).life = .unloading → (s.record i).grade ≠ none →
       let t := s.answered q rest .ok
       (b = 0 → exec .transferConfirm s = .next (State.finish (
         if (s.record i).presence = .present then s.answered q rest .state
         else ((t.booked i l true).left i .confirmed).moved .idle none (.confirmed .inTote)))) ∧
       (b = 1 → exec .transferConfirm s = .next (State.finish (
         if (s.record i).presence = .absent then s.answered q rest .state
         else (t.placed i (s.slot i) .confirmed .confirmedBack).moved .idle none (.confirmed .inSlot)))) ∧
       (b = 2 → exec .transferConfirm s = .next
         ((t.left i .confirmed).moved .idle none (.confirmed .lost)).finish))

/-- R167, R169, R170, R171, R172, Table 9-4: TAKEN, REFUSED, DONE and FAILED. A slot above 23 is answered NAK, RANGE;
a record that does not take the message NAK, NOT_EXPECTED; another slot, where the record takes the message, NAK,
WRONG_SLOT (which of the two it is, is the model's choice, log 18); and nothing else happens. A TAKEN in OFFERED is
acknowledged, takes the entry out of the queue, makes the slot UNLOADING and the record CARRYING with the carry timer;
in CARRYING it is only acknowledged. A REFUSED in OFFERED is acknowledged, clears the offered mark, stalls dispatch
and leaves the record IDLE. In CARRYING a DONE for a graded slot is acknowledged, books the drive, empties the slot,
or faults it where a drive is seen, and leaves the record IDLE; a FAILED is acknowledged and moves the record to
AWAITING_CONFIRM, with no timer. -/
def Obligations.PicksFollowTheHandlersMessages : Prop :=
  (∀ (s : State) (tag b reason : Byte) (i : SlotId) (l : LaneId) (start : Nat),
     (24 ≤ b.toNat →
       exec (.handlerTaken tag b) s = .next (s.tells (.nak 0x42 .range tag)).finish ∧
       exec (.handlerRefused tag b reason) s = .next (s.tells (.nak 0x43 .range tag)).finish) ∧
     (b.toNat < 24 → s.handler.transfer.state ≠ .offered →
       exec (.handlerRefused tag b reason) s = .next (s.tells (.nak 0x43 .notExpected tag)).finish) ∧
     (b.toNat < 24 → s.handler.transfer.state ≠ .offered → s.handler.transfer.state ≠ .carrying →
       exec (.handlerTaken tag b) s = .next (s.tells (.nak 0x42 .notExpected tag)).finish) ∧
     (s.handler.transfer = .pick .carrying i l start → b.toNat < 24 →
       exec (.handlerTaken tag b) s = .next (State.finish (
         if b.toNat = i.val then s.tells (.ack 0x42 tag) else s.tells (.nak 0x42 .wrongSlot tag)))) ∧
     (s.handler.transfer = .pick .offered i l start → b.toNat < 24 →
       ((s.record i).life = .dispatch → exec (.handlerTaken tag b) s = .next (State.finish (
         if b.toNat = i.val then
           let t := s.tells (.ack 0x42 tag)
           State.moved
             { t with
               slots := s.slotsWith i ((s.slot i).become .unloading)
               dispatch := { s.dispatch with queue := s.dispatch.queue.filter fun e => e.slot != i }
               events := s.events.offer (.slot i .dispatch .unloading .taken) }
             (.pick .carrying i l start) (some (s.now + s.settings.carryTime * 1000)) .taken
         else s.tells (.nak 0x42 .wrongSlot tag)))) ∧
       exec (.handlerRefused tag b reason) s = .next (State.finish (
         if b.toNat = i.val then
           let t := s.tells (.ack 0x43 tag)
           State.moved
             { t with
               dispatch := { s.dispatch with
                 queue := s.dispatch.queue.map fun e => if e.slot = i then { e with offered := false } else e
                 stall := some { cause := .refused reason, slot := i, lane := l } } }
             .idle none (.refused reason)
         else s.tells (.nak 0x43 .wrongSlot tag))))) ∧
  (∀ (s : State) (tag b reason : Byte) (i : SlotId) (l : LaneId) (start : Nat),
     (24 ≤ b.toNat →
       exec (.handlerDone tag b) s = .next (s.tells (.nak 0x44 .range tag)).finish ∧
       exec (.handlerFailed tag b reason) s = .next (s.tells (.nak 0x45 .range tag)).finish) ∧
     (b.toNat < 24 → s.handler.transfer.state ≠ .carrying →
       exec (.handlerDone tag b) s = .next (s.tells (.nak 0x44 .notExpected tag)).finish ∧
       exec (.handlerFailed tag b reason) s = .next (s.tells (.nak 0x45 .notExpected tag)).finish) ∧
     (s.handler.transfer = .pick .carrying i l start → b.toNat < 24 → b.toNat ≠ i.val →
       exec (.handlerDone tag b) s = .next (s.tells (.nak 0x44 .wrongSlot tag)).finish ∧
       exec (.handlerFailed tag b reason) s = .next (s.tells (.nak 0x45 .wrongSlot tag)).finish) ∧
     (s.handler.transfer = .pick .carrying i l start → b.toNat = i.val →
       ((s.record i).life = .unloading → (s.record i).grade ≠ none →
         exec (.handlerDone tag b) s = .next
           (((((s.tells (.ack 0x44 tag)).booked i l false).left i .delivered).moved .idle none .done).finish)) ∧
       exec (.handlerFailed tag b reason) s = .next
         ((s.tells (.ack 0x45 tag)).moved (.pick .awaitingConfirm i l start) none (.failed reason)).finish))

/-- R176, R177, Table 9-4: SEAT_REQUEST is answered NAK, RANGE above 23; GRANT again while the named slot's seat is in
flight; then DENY with SAFE, BUSY or OCCUPIED, the first that holds, with its TRANSFER event and the record as it was
(the event names the record as it stands, log 31); else GRANT, the slot RESERVED and the record SEATING with the carry
timer. SEAT_DONE in SEATING for the slot sets the mark and starts the seat-done wait in place of the carry timer,
once; in IDLE it is taken for the closed-seat slot alone, which it clears; any other is answered NAK. -/
def Obligations.SeatsFollowTheHandlersMessages : Prop :=
  (∀ (s : State) (tag b : Byte),
     (24 ≤ b.toNat → exec (.seatRequest tag b) s = .next (s.tells (.nak 0x40 .range tag)).finish) ∧
     ∀ hb : b.toNat < 24,
       let i : SlotId := ⟨b.toNat, hb⟩
       let r := s.handler.transfer
       let deny := fun reason : DenyReason =>
         { s.tells (.deny i reason tag) with
           events := s.events.offer (.transfer r.kind r.slot r.lane r.state r.state (.denied reason)) }
       exec (.seatRequest tag b) s = .next (State.finish (
         if r.state = .seating ∧ r.slot = some i then s.tells (.grant i tag)
         else if s.mode = .safe then deny .safe
         else if r.state ≠ .idle then deny .busy
         else if (s.record i).life ≠ .empty then deny .occupied
         else
           State.moved
             { s.tells (.grant i tag) with
               slots := s.slotsWith i ((s.slot i).become .reserved)
               events := s.events.offer (.slot i .empty .reserved .seatGranted) }
             (.seat i s.now false) (some (s.now + s.settings.carryTime * 1000)) .granted))) ∧
  (∀ (s : State) (tag b : Byte),
     (24 ≤ b.toNat → exec (.seatDone tag b) s = .next (s.tells (.nak 0x41 .range tag)).finish) ∧
     ∀ hb : b.toNat < 24,
       let i : SlotId := ⟨b.toNat, hb⟩
       let t := s.tells (.ack 0x41 tag)
       (s.handler.transfer.kind = some .pick ∨ (s.handler.transfer = .idle ∧ s.handler.closedSeat ≠ some i) →
         exec (.seatDone tag b) s = .next (s.tells (.nak 0x41 .notExpected tag)).finish) ∧
       (s.handler.transfer = .idle → s.handler.closedSeat = some i →
         exec (.seatDone tag b) s = .next (State.finish { t with handler := { t.handler with closedSeat := none } })) ∧
       ∀ (j : SlotId) (start : Nat) (done : Bool), s.handler.transfer = .seat j start done →
         exec (.seatDone tag b) s = .next (State.finish (
           if j ≠ i then s.tells (.nak 0x41 .wrongSlot tag)
           else if done = true then t
           else
             { t with
               handler := { t.handler with
                 transfer := .seat i start true, timer := some (s.now + s.settings.presenceGuard) } })))

/-- R170, R172, R177, R199: the offer timer, the carry timer and the seat-done wait run out. The offer stalls dispatch
with NO_ANSWER; a carry moves to AWAITING_CONFIRM; a seat ends with its slot EMPTY, by CARRY_TIMEOUT before SEAT_DONE
and by SEAT_FAIL after it; a timer that does not run cannot run out (log 4). Handler bytes that complete no frame but
malformed ones only pass through the receiver, and those of a well-formed frame act as its message does (log 13); and
when a frame to the handler has been sent, the oldest one formed begins. -/
def Obligations.TransferTimersAndTheHandlerLine : Prop :=
  (∀ (s : State) (i : SlotId) (l : LaneId) (start d : Nat),
     let at' : State := { s with now := max s.now d }
     let emptied : State :=
       { at' with
         slots := s.slotsWith i ((s.slot i).freshAs .empty)
         events := s.events.offer (.slot i .reserved .empty .seatReleased) }
     (s.handler.timer = none →
       exec .offerTimeout s = .next s ∧ exec .carryTimeout s = .next s ∧ exec .seatDoneWaitExpiry s = .next s) ∧
     (s.handler.timer = some d →
       (s.handler.transfer = .pick .offered i l start →
         exec .offerTimeout s = .next (State.finish (
           State.moved
             { at' with
               dispatch := { s.dispatch with
                 queue := s.dispatch.queue.map fun e => if e.slot = i then { e with offered := false } else e
                 stall := some { cause := .noAnswer, slot := i, lane := l } } }
             .idle none .noAnswer)) ∧
         exec .carryTimeout s = .next s ∧ exec .seatDoneWaitExpiry s = .next s) ∧
       (s.handler.transfer = .pick .carrying i l start →
         exec .carryTimeout s = .next (at'.moved (.pick .awaitingConfirm i l start) none .carryTimeout).finish ∧
         exec .offerTimeout s = .next s ∧ exec .seatDoneWaitExpiry s = .next s) ∧
       ((s.record i).life = .reserved →
         (s.handler.transfer = .seat i start false →
           exec .carryTimeout s = .next (emptied.moved .idle none .carryTimeout).finish) ∧
         (s.handler.transfer = .seat i start true →
           exec .seatDoneWaitExpiry s = .next (emptied.moved .idle none .seatFail).finish)))) ∧
  ((∀ (s : State) (bytes : List Byte), (∀ q ∈ (s.handler.rx.feedAll s.now bytes).2, q.malformed) →
     exec (.handlerFrameMalformed bytes) s =
       .next { s with handler := { s.handler with rx := (s.handler.rx.feedAll s.now bytes).1 } }) ∧
   (∀ (s : State) (q : Request), s.handler.rx = .hunting → q.body.length ≤ 250 → q.malformed →
     exec (.handlerFrameMalformed (frameBytes q.kind q.tag q.body)) s = .next s) ∧
   (∀ (s : State) (tag a b : Byte), s.handler.rx = .hunting →
     let received := fun (kind : Byte) (body : List Byte) => exec (.handlerFrameMalformed (frameBytes kind tag body)) s
     received 0x40 [a] = exec (.seatRequest tag a) s ∧ received 0x41 [a] = exec (.seatDone tag a) s ∧
     received 0x42 [a] = exec (.handlerTaken tag a) s ∧ received 0x43 [a, b] = exec (.handlerRefused tag a b) s ∧
     received 0x44 [a] = exec (.handlerDone tag a) s ∧ received 0x45 [a, b] = exec (.handlerFailed tag a b) s ∧
     received 0x46 [a] = exec (.toteIn tag a) s ∧ received 0x47 [a] = exec (.toteOut tag a) s) ∧
   ∀ s : State, s.admissionDue = false → s.pickDue = false → s.LineAtRest →
     exec .handlerFrameSent s = .next
       { s with handler := { s.handler with line := s.handler.out.head?, out := s.handler.out.tail } })

/-! ### Presence and power -/

/-- R6, R8, R11, R12, R13, R177: the raw level of a switch starts a pending change where it differs from presence and
none is pending, timed with the guard in force, and abandons it where it agrees. A pending gain, taken, seats an EMPTY
or a RESERVED slot afresh, with autostart considered, and ends the RESERVED slot's seat, whose TRANSFER event SEATED
follows AUTOSTARTED (the model's choice, log 20); a loss empties a SEATED,
HELD, FAULTED or unoffered DISPATCH slot, and takes an offered pick as TAKEN; in UNLOADING only presence changes. With
no change pending nothing happens (log 4). -/
def Obligations.SwitchChangesArePendingThenTaken : Prop :=
  (∀ (s : State) (i : SlotId) (level : Bool),
     exec (.rawSwitchChange i level) s = .next
       { s with
         slots := s.slotsWith i
           { s.slot i with
             switch :=
               { raw := level
                 pending :=
                   if level = decide ((s.record i).presence = .present) then none
                   else match (s.slot i).switch.pending with
                     | some d => some d
                     | none => some (s.now + s.settings.presenceGuard) } } }) ∧
  (∀ (s : State) (i : SlotId),
     ((s.slot i).switch.pending = none → exec (.presenceTaken i) s = .next s) ∧
     ∀ d, (s.slot i).switch.pending = some d →
       let at' : State := { s with now := max s.now d }
       let seen := fun p : Presence =>
         { s.slot i with
           switch := { (s.slot i).switch with pending := none }, record := { s.record i with presence := p } }
       let queue := s.dispatch.queue.filter fun e => e.slot != i
       ((s.slot i).switch.raw = true →
         ((s.record i).life = .empty →
           ∃ t, exec (.presenceTaken i) s = .next t.finish ∧
             at'.seatedNow i ((seen .present).freshAs .seated) .empty .seated t) ∧
         (∀ start done, (s.record i).life = .reserved → s.handler.transfer = .seat i start done →
           ∃ t, at'.seatedNow i ((seen .present).freshAs .seated) .reserved .seated t ∧
             exec (.presenceTaken i) s = .next (State.finish
               { t.moved .idle none .seated with
                 handler := { (t.moved .idle none .seated).handler with
                   closedSeat := if done = true then none else some i } })) ∧
         ((s.record i).life = .unloading →
           exec (.presenceTaken i) s = .next
             (State.finish { at' with slots := s.slotsWith i (seen .present) }))) ∧
       ((s.slot i).switch.raw = false →
         ((s.record i).life = .seated ∨ (s.record i).life = .held ∨ (s.record i).life = .faulted →
           exec (.presenceTaken i) s = .next (State.finish
             { at' with
               slots := s.slotsWith i ((seen .absent).freshAs .empty)
               events := s.events.offer (.slot i (s.record i).life .empty .pulled) })) ∧
         ((s.record i).life = .dispatch → s.isOffered i = false →
           exec (.presenceTaken i) s = .next (State.finish
             { at' with
               slots := s.slotsWith i ((seen .absent).freshAs .empty)
               dispatch := { s.dispatch with queue }
               events := s.events.offer (.slot i .dispatch .empty .pulled) })) ∧
         (∀ l start, (s.record i).life = .dispatch → s.isOffered i = true →
           s.handler.transfer = .pick .offered i l start →
           exec (.presenceTaken i) s = .next (State.finish (
             State.moved
               { at' with
                 slots := s.slotsWith i ((seen .absent).become .unloading)
                 dispatch := { s.dispatch with queue }
                 events := s.events.offer (.slot i .dispatch .unloading .pulled) }
               (.pick .carrying i l start) (some (at'.now + s.settings.carryTime * 1000)) .pulled))) ∧
         ((s.record i).life = .unloading →
           exec (.presenceTaken i) s = .next
             (State.finish { at' with slots := s.slotsWith i (seen .absent) }))))

/-- R10, R83: a drive pulled during a run ends it at once: the rails off, the reservation released, the admission
entry gone, the slot's window ended and its outbound queue flushed where it was powered, the record fresh and EMPTY
with no outcome appended and no grade. Other slots keep their runs. -/
def Obligations.PulledDriveEndsItsRun : Prop :=
  ∀ (s : State) (i : SlotId) (d : Nat), s.Sound → (s.slot i).switch.pending = some d → (s.slot i).switch.raw = false →
    (s.record i).life = .active ∨ (s.record i).life = .parking →
    ∃ t, exec (.presenceTaken i) s = .next t ∧
      t.slot i =
        { s.slot i with
          record := .fresh .empty .absent
          power :=
            if s.powered i = true then
              { s.power i with
                rails := false, amounts := none, spinup := none, guard := none, over12 := 0, over5 := 0, dark := 0
                sampleDue := none }
            else { s.power i with amounts := none }
          run := .idle
          bus := if s.powered i = true then .idle else s.slotBus i
          switch := { raw := false, pending := none } } ∧
      i ∉ t.waiting.map AdmissionEntry.slot ∧
      (s.powered i = true → t.slotWindow i = none) ∧
      ∀ j, j ≠ i → t.run j = s.run j ∧ t.slotBus j = s.slotBus j ∧ (t.record j).life = (s.record j).life

/-- R39, R40, R84, R106, R127, R130: while no capture is armed the ready line only takes its level; while one is, a fall
from the level found at power-on is noted, and the first rise is the capture: the reservation drops to the running
amount, SPIN takes the larger value (at most 60000 ms, log 34), the phase becomes ON, and the ready guard and the poll
clock start. The run goes on from there. After an INITIAL spin-up IDENTIFY is handed over where the link is OK, into the
reserved place (R81), and step 0 comes up and is judged where it is LOST (its cycle number and count 0, the model's
choice, log 17). A cycle's spin-up begins its on time. The closing one passes its CYCLE step, and the next step comes up
and is judged, or the plan ends and the slot parks: waiting for PARK with its link OK, else with its rails off. -/
def Obligations.ReadyLineIsCaptured : Prop :=
  ∀ (s : State) (i : SlotId) (level : Bool),
    let levelled := s.slotsWith i { s.slot i with ready := level }
    ((s.power i).spinup = none ∨ (s.slot i).ready = level →
      exec (.readyLineChange i level) s = .next { s with slots := levelled }) ∧
    (∀ c, (s.power i).spinup = some c → (s.slot i).ready = true →
      exec (.readyLineChange i false) s = .next
        { s with
          slots := s.slotsWith i
            { s.slot i with
              ready := false, power := { s.power i with spinup := some { c with fallNoted := true } } } }) ∧
    (∀ c, s.Sound → (s.power i).spinup = some c → (s.slot i).ready = false →
      ∃ t, exec (.readyLineChange i true) s = .next t ∧ (t.slot i).ready = true ∧
        ∀ t0, (s.record i).powerOnAt = some t0 →
          (t.record i).metrics.spin = some (max ((s.record i).metrics.spin.getD 0) (min 60000 (s.now - t0)))) ∧
    ∀ c a t0, s.Sound → (s.power i).spinup = some c → (s.slot i).ready = false → (s.power i).amounts = some a →
      (s.record i).powerOnAt = some t0 →
      let x := (s.slot i).capturedNow a.running s.now t0 s.settings.readyGuard
      let captured := fun y : Slot => ({ s with slots := s.slotsWith i y, admissionDue := true } : State)
      (c.kind = .initial → (s.record i).link = .ok →
        ∃ t, exec (.readyLineChange i true) s = .next t ∧ t.record i = x.record ∧ t.power i = x.power ∧
          t.run i = { x.run with stage := .identify, outstanding := some .identify } ∧
          (t.slotBus i).poll = .running s.now ∧
          (OneReserved x.bus.queue → (t.slotBus i).queue = handedOver x.bus.queue .identify ∧
            ∀ w, s.slotWindow i = some w → t.slotWindow i = some (w.displaced x.bus.queue))) ∧
      (c.kind = .initial → (s.record i).link = .lost → (s.record i).position = none →
        ∃ t, exec (.readyLineChange i true) s = .next t ∧ (captured (x.between 0 0 0)).StepJudged i (t.slot i)) ∧
      ∀ p, c.kind = .cycle → (s.record i).position = some p →
        (p.cycleNumber ≤ p.cycleCount →
          exec (.readyLineChange i true) s = .next (State.finish (captured
            { x with
              record := { x.record with
                position := some
                  { p with phase := .cycleOn, timer := .running (s.now + (s.slotStep i).onTime * 1000) } } }))) ∧
        (p.cycleCount < p.cycleNumber → (s.slotStep i).kind = .cycle →
          let outcomes := (s.record i).outcomes ++ [{ index := p.index, outcome := .passed }]
          let passed : Slot := { x with record := { x.record with outcomes } }
          ∃ t, exec (.readyLineChange i true) s = .next t ∧
            (p.index + 1 < (s.slotHead i).stepCount →
              (captured (passed.between (p.index + 1) p.cycleNumber p.cycleCount)).StepJudged i (t.slot i)) ∧
            ((s.slotHead i).stepCount ≤ p.index + 1 →
              (t.record i).outcomes = outcomes ∧ (t.record i).grade ≠ none ∧
              ((s.record i).link = .ok →
                (t.record i).life = .parking ∧ (t.run i).stage = .parkWait ∧ t.power i = x.power ∧
                  (t.record i).reserved = a.running ∧ (t.record i).powerPhase = some .on) ∧
              ((s.record i).link = .lost →
                (t.record i).life ≠ .active ∧ (t.power i).rails = false ∧ (t.record i).reserved = 0)))

/-- R42, R106, R128, R130, R41: a spin-up that times out has its rails off and its reservation released. An INITIAL
one, and the closing one of a CYCLE step, ends the plan with the grade forced NO_SPIN; any other raises PCYC and goes
on to the next cycle's off time. A ready guard that runs out ends the watch and clears the 12 V over-count. What does
not run cannot run out (log 4). -/
def Obligations.SpinUpsTimeOut : Prop :=
  ∀ (s : State) (i : SlotId),
    ((s.power i).spinup = none → exec (.spinupTimeout i) s = .next s) ∧
    ((s.power i).guard = none → exec (.readyGuardExpiry i) s = .next s) ∧
    (∀ d, (s.power i).guard = some d →
      exec (.readyGuardExpiry i) s = .next
        { s with
          now := max s.now d
          slots := s.slotsWith i { s.slot i with power := { s.power i with guard := none, over12 := 0 } } }) ∧
    ∀ c, s.Sound → (s.power i).spinup = some c →
      let now := max s.now c.deadline
      ∃ t, exec (.spinupTimeout i) s = .next t ∧ (t.power i).rails = false ∧ (t.record i).reserved = 0 ∧
        (t.record i).powerOffAt = some now ∧
        (c.kind = .initial →
          (t.record i).grade.map (fun g => (g.bin, g.reason)) = some (binReject, .forced .noSpin) ∧
          (t.record i).life ≠ .active ∧ (t.record i).outcomes = (s.record i).outcomes) ∧
        ∀ p, c.kind = .cycle → (s.record i).position = some p →
          (t.record i).metrics.pcyc = (s.record i).metrics.pcyc.map (fun v => min 255 (v + 1)) ∧
          (p.cycleNumber ≤ p.cycleCount →
            (t.record i).life = .active ∧
            (t.record i).position = some
              { p with
                phase := .cycleOff, cycleNumber := p.cycleNumber + 1
                timer := .running (now + (s.slotStep i).offTime * 1000) }) ∧
          (p.cycleCount < p.cycleNumber →
            (t.record i).grade.map (fun g => (g.bin, g.reason)) = some (binReject, .forced .noSpin) ∧
            (t.record i).outcomes =
              (s.record i).outcomes ++ [{ index := p.index, outcome := .failed .power }])

/-- R44 to R48, Table 2-8: a sample forms both corrected codes, and each counter rises where its channel is over its
ceiling, or under the dark threshold while dark counting applies, and is 0 elsewhere. While all three stay below their
limits nothing else happens. An over-count of 3 takes the rails off an ACTIVE slot and makes it FAULTED with cause
POWER, its begun step failed, and leaves a PARKING slot ungraded anew; a dark count of 100 ends the plan with the
grade forced DARK. A slot that is not sampled takes no sample (log 4). -/
def Obligations.SamplesAreCounted : Prop :=
  ∀ (s : State) (i : SlotId) (raw12 raw5 : Code),
    ((s.power i).sampleDue = none → exec (.currentSample i raw12 raw5) s = .next s) ∧
    ∀ d, (s.power i).sampleDue = some d →
      let r := s.record i
      let p := s.power i
      let reading := fun (raw : Code) (offset : Int) =>
        ({ code := (max 0 (min 4095 ((raw.toNat : Int) + offset))).toNat, saturated := raw == 4095 } : Reading)
      let r12 := reading raw12 (s.channelOffset i 0)
      let r5 := reading raw5 (s.channelOffset i 1)
      let after := r.powerPhase = some .on ∧ p.guard = none
      let c12 := if after then s.settings.runCeiling else s.settings.surgeCeiling
      let exceeds := fun (x : Reading) (ceiling : Nat) => x.saturated = true ∨ ceiling < x.code
      let over12 := if exceeds r12 c12 then p.over12 + 1 else 0
      let over5 := if exceeds r5 s.settings.fiveCeiling then p.over5 + 1 else 0
      let dark :=
        if (r.life = .active ∧ after ∧ s.settings.darkMask.getLsbD i.val = false) ∧
            r12.saturated = false ∧ r12.code < s.settings.darkThreshold then p.dark + 1
        else 0
      (over12 < 3 → over5 < 3 → dark < 100 →
        exec (.currentSample i raw12 raw5) s = .next (State.finish
          { s with
            now := max s.now d
            slots := s.slotsWith i
              { s.slot i with
                power := { p with
                  last12 := r12, last5 := r5, over12 := over12, over5 := over5, dark := dark
                  sampleDue := some (d + 10) } } })) ∧
      (s.Sound → 3 ≤ over12 ∨ 3 ≤ over5 →
        ∃ t, exec (.currentSample i raw12 raw5) s = .next t ∧ (t.power i).rails = false ∧ (t.record i).reserved = 0 ∧
          (t.record i).powerOffAt = some (max s.now d) ∧ (t.record i).grade = r.grade ∧
          (r.life = .active →
            (t.record i).life = .faulted ∧ (t.record i).fault = some .power ∧
            (t.record i).outcomes =
              r.outcomes ++
                (if s.stepBegun i = true then [{ index := s.stepIndex i, outcome := .failed .power }] else [])) ∧
          (r.life = .parking → (t.record i).life ≠ .faulted ∧ (t.record i).outcomes = r.outcomes)) ∧
      (s.Sound → over12 < 3 → over5 < 3 → 100 ≤ dark →
        ∃ t, exec (.currentSample i raw12 raw5) s = .next t ∧ (t.power i).rails = false ∧ (t.record i).reserved = 0 ∧
          (t.record i).grade.map (fun g => (g.bin, g.reason)) = some (binReject, .forced .dark) ∧
          (t.record i).life ≠ .active ∧ (t.record i).life ≠ .faulted ∧
          (t.record i).outcomes =
            r.outcomes ++
              (if s.stepBegun i = true then [{ index := s.stepIndex i, outcome := .failed .power }] else []))

/-! ### Zones, period by period -/

/-- R53 to R57, R63, R64, R66 to R70: a control period with a valid sensor whose temperature does not trip the zone. The
ZONE_PARAM entry as written comes into force. A zone in SENSOR_FAULT returns to the state it left; in RUN a zone in RAMP
or HOLD advances by one period; in COOL a temperature below cool-done ends the cooling, but a zone that enters COOL in
this period is not checked in it (the model's choice, log 23); then duties and report are formed, and the next period is
due a second after this one was made (the model's choice for one made late, log 55). In RAMP and HOLD the zone is in
band where the temperature lies within the band of the setpoint, and in RUN the heater has the bias plus Kp times the
error by 4, and 0 above the high limit, and the fan the floor plus Kf times the overshoot by 4, truncated and brought
into 0 to 255 and the floor to 255. HOLD_EXPIRY is the control period in which the hold of a zone in HOLD, in RUN, has
its last period to make, and then it reaches a segment boundary where its temperature does not trip the zone; elsewhere
it has no effect (log 7). -/
def Obligations.ControlPeriodsAndHoldsAdvanceTheZone : Prop :=
  (∀ (s : State) (z : BayId) (r : ZoneReads),
     let x := s.zone z
     let a := sensorReading x.entry.offset0 r.sensor0
     let b := sensorReading x.entry.offset1 r.sensor1
     ∀ temp : Int, zoneTemperature a b = some temp →
       x.state = .shutdown ∨
         (temp ≤ (x.entry.criticalLimit : Int) ∧ overScale r.sensor0 = false ∧ overScale r.sensor1 = false) →
       let read : Zone :=
         { x with
           param := x.entry
           reading0 := a, reading1 := b, temperature := some temp
           degraded := a.isNone || b.isNone
           state := if x.state = .sensorFault then x.left else x.state
           periodDue := max s.now x.periodDue + 1000 }
       let y : Zone :=
         match read.state with
         | .ramp | .hold => if s.mode = .run then read.advance.1 else read
         | .cool => if temp < (x.entry.coolDone : Int) then { read with state := .off } else read
         | .off | .sensorFault | .shutdown => read
       x.left ≠ .sensorFault → x.left ≠ .shutdown →
       ∃ t, exec (.controlPeriod z r) s = .next t ∧ t.zone z = y.settled s.mode ∧ t.now = max s.now x.periodDue ∧
         (∀ z', z' ≠ z → t.zone z' = s.zone z') ∧
         ∀ p, y.state.runs = true → y.position = some p →
           let w := p.acc / 60
           let error := w - temp
           let below := if error < 0 then -error else 0
           (t.zone z).report =
             { state := y.state, inBand := decide (error ≤ x.entry.band ∧ -error ≤ x.entry.band), setpoint := some w
               temperature := some temp } ∧
           (s.mode = .run →
             ((t.zone z).heater : Int) =
               (if (x.entry.highLimit : Int) < temp then 0
               else max 0 (min 255 (x.entry.bias + Int.tdiv (x.entry.kp * error) 4))) ∧
             ((t.zone z).fan : Int) =
               max (x.entry.fanFloor : Int) (min 255 (x.entry.fanFloor + Int.tdiv (x.entry.kf * below) 4)))) ∧
  (∀ (s : State) (z : BayId) (r : ZoneReads) (p : ZonePosition), (s.zone z).position = some p →
     let x := s.zone z
     let due := s.mode = .run ∧ x.state = .hold ∧ p.holdLeft ≤ 1
     (¬ due → exec (.holdExpiry z r) s = .next s) ∧
     (due → exec (.holdExpiry z r) s = exec (.controlPeriod z r) s ∧
       ∀ u v : Int, r = { sensor0 := some u, sensor1 := some v } → u < 511 → v < 511 →
         max (max (-160) (min 500 (u + x.entry.offset0))) (max (-160) (min 500 (v + x.entry.offset1)))
           ≤ (x.entry.criticalLimit : Int) →
         ∃ t, exec (.holdExpiry z r) s = .next t ∧
           (t.zone z).position = (x.boundary p).1.position ∧ (t.zone z).state = (x.boundary p).1.state ∧
           (t.zone z).active = (x.boundary p).1.active ∧ (t.zone z).staged = (x.boundary p).1.staged))

/-- R63, R64, R61: one period of a profile. A ramp steps by the rate toward the target and never past it, and holds
where it arrives; a hold counts its periods and ends in a boundary: a staged profile swapped in, the next segment,
another loop, or the end of the profile in COOL. -/
def Obligations.ProfilesAdvanceBySegments : Prop :=
  ∀ (x : Zone) (p : ZonePosition), x.position = some p →
    let g := x.active.segment p.segment
    let entered := fun (f : Profile) (k loop : Nat) (acc : Int) =>
      if acc = 60 * (f.segment k).target ∨ (f.segment k).rate = 0 then
        (ZoneState.hold,
          ({ segment := k, loop, acc := 60 * (f.segment k).target, holdLeft := max 1 (60 * (f.segment k).hold) } :
            ZonePosition))
      else (.ramp, { segment := k, loop, acc, holdLeft := 0 })
    (x.state = .ramp →
      let acc :=
        if 60 * g.target - g.rate ≤ p.acc ∧ p.acc ≤ 60 * g.target + g.rate then 60 * g.target
        else if p.acc < 60 * g.target then p.acc + g.rate else p.acc - g.rate
      x.advance =
        if acc = 60 * g.target then
          ({ x with state := .hold, position := some { p with acc, holdLeft := max 1 (60 * g.hold) } },
            some .setpointReached)
        else ({ x with position := some { p with acc } }, none)) ∧
    (x.state = .hold → 1 < p.holdLeft →
      x.advance = ({ x with position := some { p with holdLeft := p.holdLeft - 1 } }, none)) ∧
    (x.state = .hold → p.holdLeft ≤ 1 →
      (∀ f, x.staged = some f →
        x.advance =
          if f.segmentCount = 0 then
            ({ x with state := .cool, position := none, active := f, staged := none }, some .swapped)
          else
            ({ x with
                state := (entered f 0 1 p.acc).1, position := some (entered f 0 1 p.acc).2, active := f
                staged := none },
              some .swapped)) ∧
      (x.staged = none →
        x.advance =
          if p.segment + 1 < x.active.segmentCount then
            ({ x with
                state := (entered x.active (p.segment + 1) p.loop p.acc).1
                position := some (entered x.active (p.segment + 1) p.loop p.acc).2 },
              some .nextSegment)
          else if x.active.loopCount = 0 ∨ p.loop < x.active.loopCount then
            ({ x with
                state := (entered x.active 0 (min 255 (p.loop + 1)) p.acc).1
                position := some (entered x.active 0 (min 255 (p.loop + 1)) p.acc).2 },
              some .looped)
          else ({ x with state := .cool, position := none }, some .profileDone)))

/-- R55, R56, R71, R72, R38, R118, R16: a control period in which neither sensor is valid puts a zone in OFF, RAMP,
HOLD or COOL into SENSOR_FAULT, remembering the state it left and keeping its position, with heater 0, fan 255 and no
temperature. A temperature above the critical limit, or an over-scale reading, trips a zone outside SHUTDOWN: SHUTDOWN
with heater 0 and fan 255, its position discarded and its staged profile active. Every ACTIVE slot of the bay becomes
FAULTED with cause THERMAL, its begun step failed, its rails off and its admission entry gone; only a DRIVE step on a LOST
link, waiting for its gate in RUN, can fail LINK first, where the zone comes back from SENSOR_FAULT in the same period (its
report at that change has the temperature just read, the model's choice, log 21), and its run has then ended or fails so.
A PARKING slot has its rails off where its phase is ON, and is untouched where they are off already; the bay's other slots
are untouched, and slots of other bays keep their life states. The zone's ZONE_PARAM entry as written is in force. -/
def Obligations.LostSensorsAndTripsStopTheZone : Prop :=
  (∀ (s : State) (z : BayId),
     let x := s.zone z
     (x.state = .off ∨ x.state = .ramp ∨ x.state = .hold ∨ x.state = .cool) →
     ∃ t, exec (.controlPeriod z { sensor0 := none, sensor1 := none }) s = .next t ∧
       t.zone z =
         { x with
           param := x.entry, state := .sensorFault, left := x.state, reading0 := none, reading1 := none, temperature := none
           heater := 0, fan := 255, periodDue := max s.now x.periodDue + 1000
           report := { state := .sensorFault, inBand := false, setpoint := none, temperature := none } } ∧
       ∀ z', z' ≠ z → t.zone z' = s.zone z') ∧
  (∀ (s : State) (z : BayId) (r : ZoneReads) (temp : Int), s.Sound → (s.zone z).Sound →
     let x := s.zone z
     x.state ≠ .shutdown →
     zoneTemperature (sensorReading x.entry.offset0 r.sensor0) (sensorReading x.entry.offset1 r.sensor1) = some temp →
     (x.entry.criticalLimit : Int) < temp ∨ overScale r.sensor0 = true ∨ overScale r.sensor1 = true →
     ∃ t, exec (.controlPeriod z r) s = .next t ∧
       (t.zone z).state = .shutdown ∧ (t.zone z).position = none ∧ (t.zone z).heater = 0 ∧ (t.zone z).fan = 255 ∧
       (t.zone z).active = x.staged.getD x.active ∧ (t.zone z).staged = none ∧
       (t.zone z).report = { state := .shutdown, inBand := false, setpoint := none, temperature := some temp } ∧
       (∀ z', z' ≠ z → t.zone z' = s.zone z') ∧
       ∀ i : SlotId,
         (bayOf i = z → (s.record i).life = .active →
           (t.power i).rails = false ∧ (t.record i).reserved = 0 ∧ i ∉ t.waiting.map AdmissionEntry.slot ∧
           (t.record i).life ≠ .active ∧
           (¬ (x.state = .sensorFault ∧ s.mode = .run ∧ s.inPhase i .waitGate = true ∧ (s.slotStep i).kind = .drive ∧
                 (s.record i).link = .lost) →
             (t.record i).life = .faulted ∧ (t.record i).fault = some .thermal ∧
             (t.record i).outcomes =
               (s.record i).outcomes ++
                 (if s.stepBegun i = true then [{ index := s.stepIndex i, outcome := .failed .thermal }] else []))) ∧
         (bayOf i = z → (s.record i).life = .parking → (s.record i).powerPhase = some .on →
           (t.power i).rails = false ∧ (t.record i).life ≠ .faulted ∧ (t.record i).grade = (s.record i).grade) ∧
         (bayOf i = z → (s.record i).life = .parking → (s.record i).powerPhase ≠ some .on → t.slot i = s.slot i) ∧
         (bayOf i = z → (s.record i).life ≠ .active → (s.record i).life ≠ .parking → t.slot i = s.slot i) ∧
         (bayOf i ≠ z → (t.record i).life = (s.record i).life))

/-! ### The diagnostic buses -/

/-- R79, R84, R85, R86: with no window open, the first due slot after the pointer is granted a window with the head of
its queue, or a poll, and the pointer moves to it; with one open, or no slot due, nothing happens. The last byte sent
starts the reply wait in force; characters in time that do not complete a reply are kept towards it; a poll clock that
runs reaches the poll interval and stays run. Where none of these can come nothing happens (log 4), and so with
DRIVE_REPLY_RECEIVED for characters in which a second mark breaks the reply (log 14). -/
def Obligations.WindowsAreGrantedAndAwaitReplies : Prop :=
  (∀ (s : State) (b : BayId),
     let after := fun p : Position => (p.val + 5 - (s.bus b).pointer.val) % 6
     ((s.bus b).window ≠ none ∨ (∀ p, s.due (slotAt b p) = false) → exec (.windowGrant b) s = .next s) ∧
     ∀ p, (s.bus b).window = none → s.due (slotAt b p) = true → (∀ p', s.due (slotAt b p') = true → after p ≤ after p') →
       exec (.windowGrant b) s = .next
         { s with
           buses := s.buses.set b.val
             { window := some
                 { position := p, count := 1, stage := .sending, removed := false
                   frame := match (s.slotBus (slotAt b p)).queue with
                     | f :: _ => .queued f
                     | [] => .poll }
               pointer := p } }) ∧
  (∀ (s : State) (b : BayId) (i : SlotId) (chars : List BusChar),
     ((s.bus b).window = none →
       exec (.driveFrameSent b) s = .next s ∧ exec (.driveReplyReceived b chars) s = .next s) ∧
     exec (.driveReplyReceived b []) s = .next s ∧
     (∀ w, (s.bus b).window = some w → w.stage = .sending →
       exec (.driveFrameSent b) s = .next
         { s with
           buses := s.buses.set b.val
             { s.bus b with
               window := some
                 { w with
                   stage := .awaiting (s.now + s.settings.replyWait) s.settings.replyWait [] s.now } } }) ∧
     (∀ w deadline wait got lastAt, (s.bus b).window = some w → w.stage = .awaiting deadline wait got lastAt →
       chars ≠ [] → InTime s.now deadline wait lastAt got →
       (∀ bytes, assemble got chars = .partialReply bytes →
         exec (.driveReplyReceived b chars) s = .next
           { s with
             buses := s.buses.set b.val
               { s.bus b with window := some { w with stage := .awaiting deadline wait bytes s.now } } }) ∧
       (assemble got chars = .broken → exec (.driveReplyReceived b chars) s = .next s)) ∧
     (∀ since, (s.slotBus i).poll = .running since →
       exec (.pollClockExpiry i) s = .next
         { s with
           now := max s.now (since + s.settings.pollInterval * 100)
           slots := s.slotsWith i { s.slot i with bus := { s.slotBus i with poll := .run } } }) ∧
     ((s.slotBus i).poll = .stopped ∨ (s.slotBus i).poll = .run → exec (.pollClockExpiry i) s = .next s))

/-- R87, R88, R93 to R98, R109, R110, R121: a valid reply to the frame in flight makes the link OK with its counter at 0
and, without the continues flag, ends the window. An ID_REPORT to IDENTIFY sets the identity. A report to a poll raises
TEXC; it sets the running counters where it echoes the code of a RUNNING DRIVE step and the drive still runs, and
PASSED and FAILED end that step. With the continues flag a CONTINUE takes the front of the queue in the place of the
frame answered, and is sent in the same window unless another slot is due and the frame count has reached the quantum;
after a poll it is queued only where the reserved place is free. So replied to, a RAW frame and each CONTINUE after one
is passed to the host as its part, a CONTINUE after any other frame is discarded, a poll whose slot has no DRIVE step
RUNNING raises TEXC alone, and an ACK to the RUN_TEST of a step in STARTING makes it RUNNING with its timeout. A message
answered, by its reply or by NAK, is no longer outstanding, and nothing more happens but this (R105): IDENTIFY in IDENTIFY
brings step 0 up to be judged (R106; its cycle number and count 0, log 17); a NAK to RUN_TEST fails the step in STARTING,
reason DRIVE (R109); STOP_TEST releases the message deferred behind it, a RUN_TEST only for a step in STARTING (R109, R111,
R116, R124; log 43); PARK, where it is awaited, takes the rails off, and the spin-down wait or the off time runs (R116,
R124). A CONTINUE displaced by the message handed over is not sent, and the window ends (the model's choice, log 47). -/
def Obligations.ValidRepliesAreTaken : Prop :=
  ∀ (s : State) (b : BayId) (w : Window) (deadline wait lastAt : Nat) (got bytes : List Byte) (chars : List BusChar)
    (v : ValidReply),
    (s.bus b).window = some w → w.stage = .awaiting deadline wait got lastAt → w.removed = false → chars ≠ [] →
    InTime s.now deadline wait lastAt got → assemble got chars = .complete bytes →
    judgeReply w.position w.frame bytes = some v →
    let i := slotAt b w.position
    let x := s.slot i
    let queue := (s.slotBus i).queue
    let continued := fun c : Continued => if v.continues then some c else none
    (∃ t, exec (.driveReplyReceived b chars) s = .next t ∧
      (t.record i).link = .ok ∧ (t.record i).misses = 0 ∧ (v.continues = false → (t.bus b).window = none) ∧
      (∀ d, w.frame = .queued (.message .identify) → v.kind = 0x41 → identityOf v.body = some d →
        (t.record i).identity = some d) ∧
      (∀ p, w.frame = .poll → reportOf v.body = some p →
        (s.driveRunning i = true → p.testCode = (s.slotStep i).testCode → p.state = .idle ∨ p.state = .running →
          (t.record i).counters =
            { kiloblocks := p.kiloblocks, retries := p.retries, newDefects := p.newDefects, progress := p.progress
              temperature := p.temperature } ∧
          (t.record i).snapshot = false ∧ (t.record i).metrics.texc = s.texcAfter i p.temperature) ∧
        (s.driveRunning i = true → p.testCode = (s.slotStep i).testCode → p.state = .passed ∨ p.state = .failed →
          ((s.record i).outcomes ++
            [{ index := s.stepIndex i, outcome := if p.state = .passed then .passed else .failed .drive }]) <+:
              (t.record i).outcomes) ∧
        (s.driveRunning i = false → (t.record i).counters = (s.record i).counters))) ∧
    (∀ f tag part, w.frame = .queued f →
      (∃ kind body, f = .raw kind body tag ∧ part = 0) ∨ f = .cont (.raw tag part) →
      exec (.driveReplyReceived b chars) s = .next (State.finish (
        let t := s.repliedTo b w x queue.tail (continued (.raw tag (min 255 (part + 1))))
        { t with events := t.events.offer (.diagReply i tag part v.kind v.continues v.body) }))) ∧
    (∀ c, w.frame = .queued (.cont c) → c.isRaw = false →
      exec (.driveReplyReceived b chars) s = .next (s.repliedTo b w x queue.tail (continued c)).finish) ∧
    (∀ p, w.frame = .poll → reportOf v.body = some p → s.driveRunning i = false → s.inFlightHeads b = true →
      let y : Slot :=
        { x with
          record := { x.record with metrics := { x.record.metrics with texc := s.texcAfter i p.temperature } } }
      let free := queue.any QueuedFrame.reserved = false
      exec (.driveReplyReceived b chars) s = .next
        (s.repliedTo b w y queue (if free then continued .poll else none)).finish) ∧
    (∀ code argument, w.frame = .queued (.message (.runTest code argument)) → v.kind = 0x43 →
      s.inPhase i .starting = true →
      let y : Slot :=
        { x with
          record := { x.record with
            position := x.record.position.map fun p =>
              { p with phase := .running, timer := .running (s.now + (s.slotStep i).timeout * 1000) } }
          run := { x.run with outstanding := none } }
      exec (.driveReplyReceived b chars) s = .next
        (s.repliedTo b w y queue.tail (continued (.message (.runTest code argument)))).finish) ∧
    ∀ m, w.frame = .queued (.message m) → s.inFlightHeads b = true → OneReserved queue →
      let y : Slot :=
        { x with
          record := { x.record with
            identity := if m = .identify ∧ v.kind = 0x41 then identityOf v.body else x.record.identity }
          run := { x.run with outstanding := none } }
      let after := fun z : Slot => s.repliedTo b w z queue.tail (continued (.message m))
      let undeferred := { y with run := { y.run with deferred := none } }
      let handsOver := fun m' : Message =>
        s.repliedTo b w { y with run := { y.run with deferred := none, outstanding := some m' } }
          (handedOver queue.tail m') none
      let acts :=
        (m = .identify ∧ x.run.stage = .identify) ∨
          ((∃ code argument, m = .runTest code argument) ∧ s.inPhase i .starting = true) ∨
          (m = .stopTest ∧ x.run.deferred ≠ none) ∨ (m = .park ∧ s.parkAwaited i)
      (¬ acts → exec (.driveReplyReceived b chars) s = .next (after y).finish) ∧
      (m = .identify → x.run.stage = .identify → x.record.position = none → s.Sound →
        ∃ t, exec (.driveReplyReceived b chars) s = .next t ∧ (after (y.between 0 0 0)).StepJudged i (t.slot i) ∧
          ((t.slotBus i).queue.head? ≠ some (.cont (.message .identify)) → (t.bus b).window = none) ∧
          ((t.slotBus i).queue.head? = some (.cont (.message .identify)) → v.continues = true →
            (t.bus b).window = ((after y).bus b).window)) ∧
      (∀ code argument, m = .runTest code argument → v.kind = 0x44 → s.inPhase i .starting = true →
        ∃ t, exec (.driveReplyReceived b chars) s = .next t ∧
          (x.record.outcomes ++ [{ index := s.stepIndex i, outcome := .failed .drive }]) <+: (t.record i).outcomes) ∧
      (m = .stopTest →
        (x.run.deferred = some .park → exec (.driveReplyReceived b chars) s = .next (handsOver .park).finish) ∧
        ∀ code argument, x.run.deferred = some (.runTest code argument) →
          exec (.driveReplyReceived b chars) s = .next
            (if s.inPhase i .starting = true then handsOver (.runTest code argument) else after undeferred).finish) ∧
      (m = .park → s.Sound → s.parkAwaited i →
        ∃ t, exec (.driveReplyReceived b chars) s = .next t ∧
          (t.power i).rails = false ∧ (t.record i).reserved = 0 ∧ (t.record i).powerOffAt = some s.now ∧
          (t.slotBus i).queue = [] ∧ (t.bus b).window = none ∧
          (x.run.stage = .parkWait → 0 < s.settings.spinDownWait →
            (t.record i).life = .parking ∧ (t.run i).stage = .spinDown ∧
              (t.run i).spinDown = some (s.now + s.settings.spinDownWait * 1000)) ∧
          (s.inPhase i .cycleOff = true →
            (t.record i).powerPhase = some .off ∧
              (t.record i).position = x.record.position.map fun q =>
                { q with timer := .running (s.now + (s.slotStep i).offTime * 1000) }))

/-- R79, R90, R91, R92, R200: the end of the reply wait, a gap inside a reply, taken at the instant at which it has
lasted for the reply wait (the model's choice, log 57), characters that come after either, a reply broken by a mark and
a complete reply that is not valid are each a miss: the window ends, the counter rises to at most 8, and LINK rises
while the slot is ACTIVE. A link still OK below the limit changes nothing else, and the frame stays to be resent; at the
limit it becomes LOST. While it is LOST the frame missed is dropped: a RAW frame, and a CONTINUE after one, with its
report, any other CONTINUE with none, a message of the Step Sequencer so that it is no longer outstanding
(`State.missed`), and with STOP_TEST the message deferred behind it (log 43). Nothing more happens but this. IDENTIFY
dropped, or its link LOST, brings step 0 up to be judged (R106; its cycle number and count 0, log 17). RUN_TEST dropped,
deferred behind a dropped STOP_TEST, or its link LOST fails the step in STARTING, reason LINK (R109). A link LOST fails
a RUNNING DRIVE step and hands over STOP_TEST (R111). PARK dropped, deferred behind a dropped STOP_TEST, or its link
LOST with no STOP_TEST outstanding takes the rails off (R116, R124). -/
def Obligations.MissesAreCounted : Prop :=
  ∀ (s : State) (b : BayId) (w : Window) (deadline wait lastAt : Nat) (got bytes : List Byte) (chars : List BusChar)
    (c : Instr) (at' : Nat),
    (s.bus b).window = some w → w.stage = .awaiting deadline wait got lastAt →
    (c = .replyWaitExpiry b ∧ got = [] ∧ at' = deadline) ∨ (c = .replyGapTimeout b ∧ got ≠ [] ∧ at' = lastAt + wait) ∨
      (c = .replyBrokenByMarkByte b chars ∧ assemble got chars = .broken ∧ at' = s.now) ∨
      (c = .driveReplyReceived b chars ∧ chars ≠ [] ∧ ¬ InTime s.now deadline wait lastAt got ∧ at' = s.now) ∨
      (c = .driveReplyReceived b chars ∧ chars ≠ [] ∧ assemble got chars = .complete bytes ∧
        judgeReply w.position w.frame bytes = none ∧ at' = s.now) →
    let i := slotAt b w.position
    let x := s.missed b w at'
    let now := max s.now at'
    let wasLost := (s.record i).link = .lost
    let runTestGone := ∃ code argument, w.messageLost = some (.runTest code argument) ∨
      (w.messageLost = some .stopTest ∧ (s.run i).deferred = some (.runTest code argument))
    let parkGone := w.messageLost = some .park ∨ (w.messageLost = some .stopTest ∧ (s.run i).deferred = some .park)
    let identifies := (s.run i).stage = .identify ∧ (s.losesLink b w ∨ (wasLost ∧ w.messageLost = some .identify))
    let startFails := s.inPhase i .starting = true ∧ (s.losesLink b w ∨ (wasLost ∧ runTestGone))
    let driveFails := s.driveRunning i = true ∧ s.losesLink b w
    let parkFails := s.parkAwaited i ∧
      ((s.losesLink b w ∧ (x.run i).outstanding ≠ some .stopTest) ∨ (wasLost ∧ parkGone))
    let fails := fun t : State =>
      ((s.record i).outcomes ++ [{ index := s.stepIndex i, outcome := .failed .link }]) <+: (t.record i).outcomes
    let released := { x with slots := x.slotsWith i { x.slot i with run := { x.run i with deferred := none } } }
    (¬ identifies → ¬ startFails → ¬ driveFails → ¬ parkFails →
      let stopGone := (wasLost ∨ s.losesLink b w) ∧ w.messageLost = some .stopTest
      (stopGone → exec c s = .next released.finish) ∧ (¬ stopGone → exec c s = .next x.finish)) ∧
    (identifies → s.Sound → (s.record i).position = none →
      (x.run i).outstanding = none ∨ (x.run i).outstanding = some .identify →
      let y := x.slot i
      let queue :=
        if y.run.outstanding = none then y.bus.queue else y.bus.queue.erase (.message .identify)
      let up : Slot :=
        Slot.between { y with run := { y.run with outstanding := none }, bus := { y.bus with queue } } 0 0 0
      ∃ t, exec c s = .next t ∧ State.StepJudged { x with slots := x.slotsWith i up } i (t.slot i)) ∧
    (startFails → ∃ t, exec c s = .next t ∧ fails t) ∧
    (driveFails →
      ∃ t, exec c s = .next t ∧ (t.record i).link = .lost ∧ fails t ∧
        (s.mode = .safe → (s.slotStep i).onFail = .next → s.stepIndex i + 1 < (s.slotHead i).stepCount →
          (t.run i).outstanding = some .stopTest ∧
          (OneReserved (x.slotBus i).queue → (t.slotBus i).queue = handedOver (x.slotBus i).queue .stopTest))) ∧
    (parkFails → s.Sound →
      ∃ t, exec c s = .next t ∧
        (t.power i).rails = false ∧ (t.record i).reserved = 0 ∧ (t.record i).powerOffAt = some now)

/-! ### Steps -/

/-- R107, R108, R111, R112, R113, R129, R15: a gate wait that runs out fails its step GATE, a DRIVE timeout fails its
step TIMEOUT with its counters accumulated, a DWELL duration passes its step, and the on time of the last cycle passes
its CYCLE step: each appends its outcome, and the steps after it may end in the same event; in SAFE the step after a
DWELL step stays in BETWEEN. When the spin-down wait has run, PARKING ends: HELD, reason ABORTED, for disposition
HOLD, else where the bin map sends the bin. A timer that does not run in its phase cannot run out (log 4). -/
def Obligations.StepAndSpinDownTimersRunOut : Prop :=
  (∀ (s : State) (i : SlotId) (d : Nat),
     let r := s.record i
     let ends := fun (o : StepOutcome) (t : State) =>
       (r.outcomes ++ [{ index := s.stepIndex i, outcome := o }]) <+: (t.record i).outcomes ∧ max s.now d = t.now
     (s.stepDeadline i = none →
       exec (.gateWaitExpiry i) s = .next s ∧ exec (.driveTimeout i) s = .next s ∧ exec (.dwellExpiry i) s = .next s ∧
       exec (.cycleOffExpiry i) s = .next s ∧ exec (.cycleOnExpiry i) s = .next s) ∧
     (s.stepDeadline i = some d →
       (s.inPhase i .waitGate = true → ∃ t, exec (.gateWaitExpiry i) s = .next t ∧ ends (.failed .gate) t) ∧
       (s.inPhase i .waitGate = false → exec (.gateWaitExpiry i) s = .next s) ∧
       (s.inPhase i .running = true → (s.slotStep i).kind = .drive →
         ∃ t, exec (.driveTimeout i) s = .next t ∧ ends (.failed .timeout) t ∧
           (t.record i).metrics.retryTotal = min 16777215 (r.metrics.retryTotal + r.counters.retries) ∧
           (t.record i).metrics.kiloblockTotal = min 4294967295 (r.metrics.kiloblockTotal + r.counters.kiloblocks) ∧
           (t.record i).metrics.grow = some (min 65535 (r.metrics.grow.getD 0 + r.counters.newDefects)) ∧
           (t.record i).counters = .zero) ∧
       (s.inPhase i .running = true → (s.slotStep i).kind = .dwell →
         ∃ t, exec (.dwellExpiry i) s = .next t ∧ ends .passed t ∧
           (s.mode = .safe → s.stepIndex i + 1 < (s.slotHead i).stepCount →
             (t.record i).position = r.position.map fun q =>
               { q with index := s.stepIndex i + 1, phase := .between, timer := .none })) ∧
       (∀ q, s.inPhase i .cycleOn = true → r.position = some q → q.cycleCount ≤ q.cycleNumber →
         ∃ t, exec (.cycleOnExpiry i) s = .next t ∧ ends .passed t))) ∧
  (∀ (s : State) (i : SlotId),
     ((s.run i).spinDown = none → exec (.spinDownExpiry i) s = .next s) ∧
     ∀ d, (s.run i).spinDown = some d → (s.record i).life = .parking →
       exec (.spinDownExpiry i) s = .next (State.finish (
         let at' : State := { s with now := max s.now d }
         if (s.record i).disposition = some .hold then
           { at' with
             slots := s.slotsWith i ((s.slot i).become .held none (some .aborted))
             events := s.events.offer (.slot i .parking .held .spunDown) }
         else at'.placed i (s.slot i) .spunDown .binHold)))

/-- R123 to R126, R129: an off time that runs out enters CYCLE_ADMIT, QUEUED, with a CYCLE entry at the tail of the
slot's level. An on time before the last cycle enters the next CYCLE_OFF: with the rails off and the off timer
running, unless the plan parks before a cycle and the link is OK, when PARK is handed over, or deferred, with the
rails still on. -/
def Obligations.CyclesGoOffAndOn : Prop :=
  ∀ (s : State) (i : SlotId) (d : Nat) (q : StepPosition), s.stepDeadline i = some d → (s.record i).position = some q →
    (∀ (priority : Fin 4) (a : RunAmounts), s.inPhase i .cycleOff = true → (s.record i).priority = some priority →
      (s.power i).amounts = some a →
      exec (.cycleOffExpiry i) s = .next (State.finish
        { s with
          now := max s.now d
          slots := s.slotsWith i
            { s.slot i with
              record := { s.record i with
                powerPhase := some .queued
                position := some { q with phase := .cycleAdmit, timer := .none } } }
          admission := s.admission.set priority.val
            (s.admission[priority.val] ++
              [{ slot := i, priority, surge := a.surge, kind := .cycle }])
          admissionDue := true })) ∧
    (s.Sound → s.inPhase i .cycleOn = true → q.cycleNumber < q.cycleCount →
      ((s.slotHead i).parkBeforeCycle = false ∨ (s.record i).link = .lost →
        ∃ t, exec (.cycleOnExpiry i) s = .next t ∧ (t.power i).rails = false ∧ (t.record i).reserved = 0 ∧
          (t.record i).powerPhase = some .off ∧ (t.slotBus i).queue = [] ∧
          (t.record i).position = some
            { q with
              phase := .cycleOff, cycleNumber := q.cycleNumber + 1
              timer := .running (max s.now d + (s.slotStep i).offTime * 1000) }) ∧
      ((s.slotHead i).parkBeforeCycle = true → (s.record i).link = .ok →
        ∃ t, exec (.cycleOnExpiry i) s = .next t ∧ (t.power i).rails = (s.power i).rails ∧
          (t.record i).position = some
            { q with phase := .cycleOff, cycleNumber := q.cycleNumber + 1, timer := .none } ∧
          ((s.run i).outstanding = none → (t.run i).outstanding = some .park) ∧
          ((s.run i).outstanding ≠ none → (t.run i).deferred = some .park)))

/-! ### Resets -/

/-- R25, R51, R76, R100, R122, R149, R164, R179, Tables 10-4 and 10-7: a power-on reset leaves the state of
`State.reset` but for the pins, whose levels stand and whose closed switches start a pending change with the default
guard (log 11), for the queue of commands, which it keeps (the model's choice, log 42), and for the zones' first
control periods; shelf time begins at 0 (the model's choice, log 38). Each zone has its parameters and
profile at power-on values and is OFF, in SENSOR_FAULT without a valid sensor, or in SHUTDOWN above 380 q; with exactly
one valid sensor it runs on that one, its degraded mark set. -/
def Obligations.PowerOnResetRestoresEverything : Prop :=
  ∀ (s : State) (reads : Vector ZoneReads 4),
    ∃ zones : Vector Zone 4,
      exec (.powerOnReset reads) s = .next
        { State.reset with
          pending := s.pending
          zones
          slots := s.slots.map fun x =>
            { Slot.reset with
              ready := x.ready
              switch := { raw := x.switch.raw, pending := if x.switch.raw = true then some 200 else none } } } ∧
      ∀ z : BayId,
        (zones[z.val]).entry = .reset ∧ (zones[z.val]).param = .reset ∧ (zones[z.val]).active = .reset ∧ (zones[z.val]).staged = none ∧
        (zones[z.val]).position = none ∧ (zones[z.val]).heater = 0 ∧ (zones[z.val]).periodDue = 1000 ∧
        (reads[z.val] = { sensor0 := none, sensor1 := none } →
          (zones[z.val]).state = .sensorFault ∧ (zones[z.val]).fan = 255 ∧ (zones[z.val]).degraded = false) ∧
        (∀ u : Int,
          reads[z.val] = { sensor0 := some u, sensor1 := none } ∨ reads[z.val] = { sensor0 := none, sensor1 := some u } →
          (zones[z.val]).degraded = true ∧
          (511 ≤ u ∨ 380 < u → (zones[z.val]).state = .shutdown ∧ (zones[z.val]).fan = 255) ∧
          (u ≤ 380 →
            (zones[z.val]).state = .off ∧ (zones[z.val]).fan = 64 ∧
            (zones[z.val]).temperature = some (max (-160) u))) ∧
        ∀ u v : Int, reads[z.val] = { sensor0 := some u, sensor1 := some v } →
          (zones[z.val]).degraded = false ∧
          ((511 ≤ u ∨ 511 ≤ v ∨ 380 < u ∨ 380 < v → (zones[z.val]).state = .shutdown ∧ (zones[z.val]).fan = 255) ∧
          (u ≤ 380 → v ≤ 380 →
            (zones[z.val]).state = .off ∧ (zones[z.val]).fan = 64 ∧
            (zones[z.val]).temperature = some (max (max (-160) u) (max (-160) v))))

/-- R26, R195, R7 and the reset tables: a warm reset, by the line at any time or for RESTART once its reply has been
sent, sets RUN, restarts the silence timer, empties the Cell Link's queues, the event queue among them, the admission
and dispatch queues, the buses and the transfer record, lets shelf time go on (the model's choice, log 38), and
re-evaluates every slot from its presence with a fresh record, unpowered; presence and pins stand. The frame being sent
to the handler is cut off by the reset line, and goes on over a RESTART's reset (the model's choice on R195 and R199,
log 30). RESTARTED is the first event offered, and the zones' events and those of the slots autostarted follow it; the
first event queued is on the line at once, and the events-lost flag and the event number go on. A slot whose drive is
absent, and with no autostart every slot, ends so; the others are SEATED, or started where the plan named can run; and
the admission queue holds none but the slots so started, in the level of priority 1. Settings, tables, lanes, manifest
and enables are kept, and a staged profile becomes active. Before the reply has been sent WARM_RESET for RESTART has no
effect (log 6). -/
def Obligations.WarmResetDropsTheWorkInFlight : Prop :=
  ∀ (s : State) (cause : ResetCause) (reads : Vector ZoneReads 4),
    (cause = .request → s.cell.restart ≠ .due → exec (.warmReset cause reads) s = .next s) ∧
    (cause = .line ∨ s.cell.restart = .due →
      ∃ t, exec (.warmReset cause reads) s = .next t ∧ t.mode = .run ∧ t.now = s.now ∧
        t.silence = { s.silence with timer := some (s.now + s.silence.period * 1000) } ∧
        t.cell.rx = .hunting ∧ t.cell.input = [] ∧ t.cell.refusals = [] ∧ t.cell.reply = none ∧
        t.cell.restart = .none ∧ t.events.enables = s.events.enables ∧
        (∃ l : List Event,
          let p := l.foldl EventPort.offer
            (({ s.events with queue := [] } : EventPort).offer (.supervision (.restarted cause)))
          t.events = { p with queue := p.queue.tail } ∧
          t.cell.line = p.queue.head?.map (fun e => OutFrame.event e.1 e.2) ∧
          ∀ e ∈ l, (∃ z left entered why temp pos sensor, e = .zone z left entered why temp pos sensor) ∨
            ∃ i, e = .slot i .seated .active .autostarted) ∧
        (∀ l : Fin 4, l ≠ 1 → t.admission[l.val] = []) ∧
        (∀ e ∈ t.waiting, e.priority = 1 ∧ e.kind = .initial ∧ (t.record e.slot).life = .active ∧
          (t.record e.slot).powerPhase = some .queued) ∧
        (s.settings.autostart = none → t.waiting = []) ∧
        s.SameConfiguration t ∧ t.lanes = s.lanes ∧
        t.dispatch = { s.dispatch with queue := [], stall := none } ∧
        t.handler.transfer = .idle ∧ t.handler.timer = none ∧ t.handler.closedSeat = none ∧ t.handler.out = [] ∧
        t.handler.rx = .hunting ∧ t.handler.line = (if cause = .line then none else s.handler.line) ∧
        t.buses = Vector.replicate 4 .reset ∧
        (∀ z : BayId, (t.zone z).position = none ∧ (t.zone z).staged = none ∧
          (t.zone z).active = (s.zone z).staged.getD (s.zone z).active) ∧
        ∀ i : SlotId,
          (t.slot i).switch = (s.slot i).switch ∧ (t.slot i).ready = (s.slot i).ready ∧
          (t.record i).presence = (s.record i).presence ∧
          ((s.record i).presence = .absent ∨ s.settings.autostart = none →
            t.slot i =
              { s.slot i with
                record :=
                  .fresh (if (s.record i).presence = .present then .seated else .empty) (s.record i).presence
                power := .idle, run := .idle, bus := .idle }) ∧
          ((s.record i).presence = .present → (t.record i).life = .seated ∨ (t.record i).life = .active) ∧
          ∀ p, s.settings.autostart = some p → (s.record i).presence = .present →
            ((s.planHead p).stepCount ≠ 0 → (t.zone (bayOf i)).state ≠ .shutdown →
              (t.record i).life = .active ∧ (t.record i).plan = some p ∧ (t.record i).priority = some 1) ∧
            ((t.zone (bayOf i)).state = .shutdown ∨ (s.planHead p).stepCount = 0 → (t.record i).life = .seated))

/-! ### The work that ends a command, and gradings -/

/-- R33, R34, R50: an admission run in RUN takes the head entry of the highest level that holds one: where its surge
amount fits the budget it is admitted and the run goes on, and else the run ends; it ends too where no level holds an
entry. Admitted, it has its surge amount reserved, the rails on, the power-on time recorded, SPINUP with its timer and
the capture armed, counters at 0 and the first sample due 10 ms later; a cycling slot enters CYCLE_ON. At the end of a
command that called for a run, no head entry is left that the budget has room for, and the reserved sum is within the
budget if it was before. In SAFE the queue stands. -/
def Obligations.AdmissionFillsTheBudget : Prop :=
  (∀ s : State, s.mode = .run → s.admissionDue = true →
    s.settleAdmission = State.admissionRun { s with admissionDue := false } ∧
    (∀ l e, s.finish.admissionHead = some (l, e) →
      s.finish.settings.budget < s.finish.reservedSum + e.surge) ∧
    (s.reservedSum ≤ s.settings.budget → s.finish.reservedSum ≤ s.finish.settings.budget)) ∧
  (∀ s : State, s.mode = .safe →
    s.finish.admission = s.admission ∧ s.finish.slots = s.slots) ∧
  (∀ (s : State) (l : Fin 4) (e : AdmissionEntry) (rest : List AdmissionEntry), s.mode = .run →
    s.admission[l.val] = e :: rest → (∀ l' : Fin 4, l < l' → s.admission[l'.val] = []) →
    s.admissionHead = some (l, e) ∧
    s.admissionRun =
      if s.reservedSum + e.surge ≤ s.settings.budget then (s.admitted l e rest).admissionRun else s) ∧
  (∀ s : State, s.admission = Vector.replicate 4 [] → s.admissionHead = none ∧ s.admissionRun = s) ∧
  ∀ (s : State) (l : Fin 4) (e : AdmissionEntry), s.mode = .run → s.admissionDue = true → s.pickDue = false →
    s.admission = (Vector.replicate 4 []).set l.val [e] → s.reservedSum + e.surge ≤ s.settings.budget →
    s.settleAdmission = State.admitted { s with admissionDue := false } l e []

/-- R161, R168: a pick selection offers a pick only in RUN, enabled, unstalled, IDLE and with 47 records or fewer;
then the oldest entry whose bin maps to an OPEN lane has its mark set, and the record becomes OFFERED with the offer
timer and a PICK formed. Entries it passes over keep their places. Elsewhere it changes nothing. -/
def Obligations.PickSelectionTakesTheOldest : Prop :=
  ∀ s : State,
    let goes := fun (e : DispatchEntry) (l : LaneId) => s.destination e.bin = .lane l ∧ (s.lane l).state = .open
    let may := s.mode = .run ∧ s.dispatch.enabled = true ∧ s.dispatch.stall = none ∧ s.handler.transfer = .idle ∧
      s.dispatch.manifest.length ≤ 47
    (¬ may ∨ (∀ e ∈ s.dispatch.queue, ∀ l, ¬ goes e l) → s.pickSelection = s) ∧
    ∀ (before behind : List DispatchEntry) (e : DispatchEntry) (l : LaneId), may →
      s.dispatch.queue = before ++ e :: behind → (∀ e' ∈ before, ∀ l', ¬ goes e' l') → goes e l →
      s.pickSelection =
        { s with
          dispatch := { s.dispatch with
            queue := s.dispatch.queue.map fun e' => if e'.slot = e.slot then { e' with offered := true } else e' }
          handler := { s.handler with
            transfer := .pick .offered e.slot l s.now
            timer := some (s.now + s.settings.offerTime * 100)
            closedSeat := none
            out := s.handler.out ++ [.pick e.slot l s.handler.pickTag]
            pickTag := s.handler.pickTag + 1 }
          events := s.events.offer (.transfer (some .pick) (some e.slot) (some l) .idle .offered .offered) }

/-- R141, R142, R144, R145: RRATE is retries per 2^20 sectors rounded to nearest, a half up, brought down to 65535,
and absent exactly where nothing was handled. The score is the sum over the present metrics of weight times the excess
over the allowance, each term and the sum brought down to 65535. A forced cause decides first, then a metric over its
limit, the first of them, with the bin REJECT, then a missing identity; a grade G is given only by an enabled entry
whose ceiling is not below the score and whose required metrics are present, no entry before it being so; and NO_GRADE
and ABSENT only where there is none. -/
def Obligations.GradesFollowTheTables : Prop :=
  ∀ (r : SlotRecord) (metrics : Vector MetricEntry 6) (grades : Vector GradeEntry 8) (forced : Option ForcedCause),
    let m := r.metrics.graded
    let g := gradeOf metrics grades r forced
    let met := fun k : Fin 8 =>
      (grades[k.val]).enabled = true ∧ g.score ≤ (grades[k.val]).ceiling ∧
        ∀ j : Fin 6, ((grades[k.val]).required.getLsbD j.val) = true → m.value j ≠ none
    let term := fun k : Fin 6 =>
      match m.value k with
      | some v => min 65535 ((metrics[k.val]).weight * (v - (metrics[k.val]).allowance))
      | none => 0
    (m.rrate = none ↔ r.metrics.kiloblockTotal = 0) ∧
    (0 < r.metrics.kiloblockTotal →
      m.rrate = some (min 65535
        ((r.metrics.retryTotal * 2048 + r.metrics.kiloblockTotal) / (2 * r.metrics.kiloblockTotal)))) ∧
    (∀ v, m.rrate = some v → v ≤ 65535 ∧
      (v < 65535 →
        2 * v * r.metrics.kiloblockTotal ≤ 2048 * r.metrics.retryTotal + r.metrics.kiloblockTotal ∧
        2048 * r.metrics.retryTotal + r.metrics.kiloblockTotal < 2 * (v + 1) * r.metrics.kiloblockTotal)) ∧
    g.score ≤ 65535 ∧ g.score = min 65535 (term 0 + term 1 + term 2 + term 3 + term 4 + term 5) ∧
    (∀ c, forced = some c → g.bin = binReject ∧ g.reason = .forced c) ∧
    (forced = none →
      (∀ k : Fin 6, g.reason = .limit k ↔
        (∃ v, m.value k = some v ∧ (metrics[k.val]).rejectLimit < v) ∧
          ∀ j : Fin 6, j < k → ∀ v, m.value j = some v → v ≤ (metrics[j.val]).rejectLimit) ∧
      (∀ k : Fin 6, g.reason = .limit k → g.bin = binReject) ∧
      ((∀ k : Fin 6, ∀ v, m.value k = some v → v ≤ (metrics[k.val]).rejectLimit) →
        (r.identity = none → g.bin = binRetest ∧ g.reason = .noId) ∧
        (r.identity ≠ none →
          (∀ k : Fin 8, (g.bin.val = k.val ∧ g.reason = .scored) ↔ met k ∧ ∀ j : Fin 8, j < k → ¬ met j) ∧
          ((∀ k, ¬ met k) →
            if ∃ k : Fin 8, (grades[k.val]).enabled = true ∧ g.score ≤ (grades[k.val]).ceiling then
              g.bin = binRetest ∧ g.reason = .absent
            else g.bin = binReject ∧ g.reason = .noGrade))))
end

