-- ==== Sys2Proof/Laws/State.lean ====
section
/-! SUPPORT. What each primitive update of State leaves alone, field by field, and what reading after it gives. -/

namespace Sys2Proof.Machine

variable (s : State)

/-! ### Fields an update does not write -/

@[simp] theorem State.setSlot_now (i : SlotId) (x : Slot) : (s.setSlot i x).now = s.now := rfl
@[simp] theorem State.setSlot_mode (i : SlotId) (x : Slot) : (s.setSlot i x).mode = s.mode := rfl
@[simp] theorem State.setSlot_settings (i : SlotId) (x : Slot) : (s.setSlot i x).settings = s.settings := rfl
@[simp] theorem State.setSlot_cell (i : SlotId) (x : Slot) : (s.setSlot i x).cell = s.cell := rfl
@[simp] theorem State.setSlot_events (i : SlotId) (x : Slot) : (s.setSlot i x).events = s.events := rfl
@[simp] theorem State.setSlot_silence (i : SlotId) (x : Slot) : (s.setSlot i x).silence = s.silence := rfl
@[simp] theorem State.setSlot_admission (i : SlotId) (x : Slot) : (s.setSlot i x).admission = s.admission := rfl
@[simp] theorem State.setSlot_planHeads (i : SlotId) (x : Slot) : (s.setSlot i x).planHeads = s.planHeads := rfl
@[simp] theorem State.setSlot_planSteps (i : SlotId) (x : Slot) : (s.setSlot i x).planSteps = s.planSteps := rfl
@[simp] theorem State.setSlot_zones (i : SlotId) (x : Slot) : (s.setSlot i x).zones = s.zones := rfl
@[simp] theorem State.setSlot_buses (i : SlotId) (x : Slot) : (s.setSlot i x).buses = s.buses := rfl
@[simp] theorem State.setSlot_metricTable (i : SlotId) (x : Slot) : (s.setSlot i x).metricTable = s.metricTable := rfl
@[simp] theorem State.setSlot_gradeTable (i : SlotId) (x : Slot) : (s.setSlot i x).gradeTable = s.gradeTable := rfl
@[simp] theorem State.setSlot_binMap (i : SlotId) (x : Slot) : (s.setSlot i x).binMap = s.binMap := rfl
@[simp] theorem State.setSlot_lanes (i : SlotId) (x : Slot) : (s.setSlot i x).lanes = s.lanes := rfl
@[simp] theorem State.setSlot_offsets (i : SlotId) (x : Slot) : (s.setSlot i x).offsets = s.offsets := rfl
@[simp] theorem State.setSlot_dispatch (i : SlotId) (x : Slot) : (s.setSlot i x).dispatch = s.dispatch := rfl
@[simp] theorem State.setSlot_handler (i : SlotId) (x : Slot) : (s.setSlot i x).handler = s.handler := rfl
@[simp] theorem State.setSlot_admissionDue (i : SlotId) (x : Slot) : (s.setSlot i x).admissionDue = s.admissionDue := rfl
@[simp] theorem State.setSlot_pickDue (i : SlotId) (x : Slot) : (s.setSlot i x).pickDue = s.pickDue := rfl
@[simp] theorem State.setSlot_pending (i : SlotId) (x : Slot) : (s.setSlot i x).pending = s.pending := rfl

@[simp] theorem State.modSlot_now (i : SlotId) (f : Slot → Slot) : (s.modSlot i f).now = s.now := rfl
@[simp] theorem State.modSlot_mode (i : SlotId) (f : Slot → Slot) : (s.modSlot i f).mode = s.mode := rfl
@[simp] theorem State.modSlot_settings (i : SlotId) (f : Slot → Slot) : (s.modSlot i f).settings = s.settings := rfl
@[simp] theorem State.modSlot_cell (i : SlotId) (f : Slot → Slot) : (s.modSlot i f).cell = s.cell := rfl
@[simp] theorem State.modSlot_events (i : SlotId) (f : Slot → Slot) : (s.modSlot i f).events = s.events := rfl
@[simp] theorem State.modSlot_silence (i : SlotId) (f : Slot → Slot) : (s.modSlot i f).silence = s.silence := rfl
@[simp] theorem State.modSlot_admission (i : SlotId) (f : Slot → Slot) : (s.modSlot i f).admission = s.admission := rfl
@[simp] theorem State.modSlot_planHeads (i : SlotId) (f : Slot → Slot) : (s.modSlot i f).planHeads = s.planHeads := rfl
@[simp] theorem State.modSlot_planSteps (i : SlotId) (f : Slot → Slot) : (s.modSlot i f).planSteps = s.planSteps := rfl
@[simp] theorem State.modSlot_zones (i : SlotId) (f : Slot → Slot) : (s.modSlot i f).zones = s.zones := rfl
@[simp] theorem State.modSlot_buses (i : SlotId) (f : Slot → Slot) : (s.modSlot i f).buses = s.buses := rfl
@[simp] theorem State.modSlot_metricTable (i : SlotId) (f : Slot → Slot) : (s.modSlot i f).metricTable = s.metricTable := rfl
@[simp] theorem State.modSlot_gradeTable (i : SlotId) (f : Slot → Slot) : (s.modSlot i f).gradeTable = s.gradeTable := rfl
@[simp] theorem State.modSlot_binMap (i : SlotId) (f : Slot → Slot) : (s.modSlot i f).binMap = s.binMap := rfl
@[simp] theorem State.modSlot_lanes (i : SlotId) (f : Slot → Slot) : (s.modSlot i f).lanes = s.lanes := rfl
@[simp] theorem State.modSlot_offsets (i : SlotId) (f : Slot → Slot) : (s.modSlot i f).offsets = s.offsets := rfl
@[simp] theorem State.modSlot_dispatch (i : SlotId) (f : Slot → Slot) : (s.modSlot i f).dispatch = s.dispatch := rfl
@[simp] theorem State.modSlot_handler (i : SlotId) (f : Slot → Slot) : (s.modSlot i f).handler = s.handler := rfl
@[simp] theorem State.modSlot_admissionDue (i : SlotId) (f : Slot → Slot) : (s.modSlot i f).admissionDue = s.admissionDue := rfl
@[simp] theorem State.modSlot_pickDue (i : SlotId) (f : Slot → Slot) : (s.modSlot i f).pickDue = s.pickDue := rfl
@[simp] theorem State.modSlot_pending (i : SlotId) (f : Slot → Slot) : (s.modSlot i f).pending = s.pending := rfl

@[simp] theorem State.modRecord_now (i : SlotId) (f : SlotRecord → SlotRecord) : (s.modRecord i f).now = s.now := rfl
@[simp] theorem State.modRecord_mode (i : SlotId) (f : SlotRecord → SlotRecord) : (s.modRecord i f).mode = s.mode := rfl
@[simp] theorem State.modRecord_settings (i : SlotId) (f : SlotRecord → SlotRecord) : (s.modRecord i f).settings = s.settings := rfl
@[simp] theorem State.modRecord_cell (i : SlotId) (f : SlotRecord → SlotRecord) : (s.modRecord i f).cell = s.cell := rfl
@[simp] theorem State.modRecord_events (i : SlotId) (f : SlotRecord → SlotRecord) : (s.modRecord i f).events = s.events := rfl
@[simp] theorem State.modRecord_silence (i : SlotId) (f : SlotRecord → SlotRecord) : (s.modRecord i f).silence = s.silence := rfl
@[simp] theorem State.modRecord_admission (i : SlotId) (f : SlotRecord → SlotRecord) : (s.modRecord i f).admission = s.admission := rfl
@[simp] theorem State.modRecord_planHeads (i : SlotId) (f : SlotRecord → SlotRecord) : (s.modRecord i f).planHeads = s.planHeads := rfl
@[simp] theorem State.modRecord_planSteps (i : SlotId) (f : SlotRecord → SlotRecord) : (s.modRecord i f).planSteps = s.planSteps := rfl
@[simp] theorem State.modRecord_zones (i : SlotId) (f : SlotRecord → SlotRecord) : (s.modRecord i f).zones = s.zones := rfl
@[simp] theorem State.modRecord_buses (i : SlotId) (f : SlotRecord → SlotRecord) : (s.modRecord i f).buses = s.buses := rfl
@[simp] theorem State.modRecord_metricTable (i : SlotId) (f : SlotRecord → SlotRecord) : (s.modRecord i f).metricTable = s.metricTable := rfl
@[simp] theorem State.modRecord_gradeTable (i : SlotId) (f : SlotRecord → SlotRecord) : (s.modRecord i f).gradeTable = s.gradeTable := rfl
@[simp] theorem State.modRecord_binMap (i : SlotId) (f : SlotRecord → SlotRecord) : (s.modRecord i f).binMap = s.binMap := rfl
@[simp] theorem State.modRecord_lanes (i : SlotId) (f : SlotRecord → SlotRecord) : (s.modRecord i f).lanes = s.lanes := rfl
@[simp] theorem State.modRecord_offsets (i : SlotId) (f : SlotRecord → SlotRecord) : (s.modRecord i f).offsets = s.offsets := rfl
@[simp] theorem State.modRecord_dispatch (i : SlotId) (f : SlotRecord → SlotRecord) : (s.modRecord i f).dispatch = s.dispatch := rfl
@[simp] theorem State.modRecord_handler (i : SlotId) (f : SlotRecord → SlotRecord) : (s.modRecord i f).handler = s.handler := rfl
@[simp] theorem State.modRecord_admissionDue (i : SlotId) (f : SlotRecord → SlotRecord) : (s.modRecord i f).admissionDue = s.admissionDue := rfl
@[simp] theorem State.modRecord_pickDue (i : SlotId) (f : SlotRecord → SlotRecord) : (s.modRecord i f).pickDue = s.pickDue := rfl
@[simp] theorem State.modRecord_pending (i : SlotId) (f : SlotRecord → SlotRecord) : (s.modRecord i f).pending = s.pending := rfl

@[simp] theorem State.modPower_now (i : SlotId) (f : PowerContext → PowerContext) : (s.modPower i f).now = s.now := rfl
@[simp] theorem State.modPower_mode (i : SlotId) (f : PowerContext → PowerContext) : (s.modPower i f).mode = s.mode := rfl
@[simp] theorem State.modPower_settings (i : SlotId) (f : PowerContext → PowerContext) : (s.modPower i f).settings = s.settings := rfl
@[simp] theorem State.modPower_cell (i : SlotId) (f : PowerContext → PowerContext) : (s.modPower i f).cell = s.cell := rfl
@[simp] theorem State.modPower_events (i : SlotId) (f : PowerContext → PowerContext) : (s.modPower i f).events = s.events := rfl
@[simp] theorem State.modPower_silence (i : SlotId) (f : PowerContext → PowerContext) : (s.modPower i f).silence = s.silence := rfl
@[simp] theorem State.modPower_admission (i : SlotId) (f : PowerContext → PowerContext) : (s.modPower i f).admission = s.admission := rfl
@[simp] theorem State.modPower_planHeads (i : SlotId) (f : PowerContext → PowerContext) : (s.modPower i f).planHeads = s.planHeads := rfl
@[simp] theorem State.modPower_planSteps (i : SlotId) (f : PowerContext → PowerContext) : (s.modPower i f).planSteps = s.planSteps := rfl
@[simp] theorem State.modPower_zones (i : SlotId) (f : PowerContext → PowerContext) : (s.modPower i f).zones = s.zones := rfl
@[simp] theorem State.modPower_buses (i : SlotId) (f : PowerContext → PowerContext) : (s.modPower i f).buses = s.buses := rfl
@[simp] theorem State.modPower_metricTable (i : SlotId) (f : PowerContext → PowerContext) : (s.modPower i f).metricTable = s.metricTable := rfl
@[simp] theorem State.modPower_gradeTable (i : SlotId) (f : PowerContext → PowerContext) : (s.modPower i f).gradeTable = s.gradeTable := rfl
@[simp] theorem State.modPower_binMap (i : SlotId) (f : PowerContext → PowerContext) : (s.modPower i f).binMap = s.binMap := rfl
@[simp] theorem State.modPower_lanes (i : SlotId) (f : PowerContext → PowerContext) : (s.modPower i f).lanes = s.lanes := rfl
@[simp] theorem State.modPower_offsets (i : SlotId) (f : PowerContext → PowerContext) : (s.modPower i f).offsets = s.offsets := rfl
@[simp] theorem State.modPower_dispatch (i : SlotId) (f : PowerContext → PowerContext) : (s.modPower i f).dispatch = s.dispatch := rfl
@[simp] theorem State.modPower_handler (i : SlotId) (f : PowerContext → PowerContext) : (s.modPower i f).handler = s.handler := rfl
@[simp] theorem State.modPower_admissionDue (i : SlotId) (f : PowerContext → PowerContext) : (s.modPower i f).admissionDue = s.admissionDue := rfl
@[simp] theorem State.modPower_pickDue (i : SlotId) (f : PowerContext → PowerContext) : (s.modPower i f).pickDue = s.pickDue := rfl
@[simp] theorem State.modPower_pending (i : SlotId) (f : PowerContext → PowerContext) : (s.modPower i f).pending = s.pending := rfl

@[simp] theorem State.modRun_now (i : SlotId) (f : RunContext → RunContext) : (s.modRun i f).now = s.now := rfl
@[simp] theorem State.modRun_mode (i : SlotId) (f : RunContext → RunContext) : (s.modRun i f).mode = s.mode := rfl
@[simp] theorem State.modRun_settings (i : SlotId) (f : RunContext → RunContext) : (s.modRun i f).settings = s.settings := rfl
@[simp] theorem State.modRun_cell (i : SlotId) (f : RunContext → RunContext) : (s.modRun i f).cell = s.cell := rfl
@[simp] theorem State.modRun_events (i : SlotId) (f : RunContext → RunContext) : (s.modRun i f).events = s.events := rfl
@[simp] theorem State.modRun_silence (i : SlotId) (f : RunContext → RunContext) : (s.modRun i f).silence = s.silence := rfl
@[simp] theorem State.modRun_admission (i : SlotId) (f : RunContext → RunContext) : (s.modRun i f).admission = s.admission := rfl
@[simp] theorem State.modRun_planHeads (i : SlotId) (f : RunContext → RunContext) : (s.modRun i f).planHeads = s.planHeads := rfl
@[simp] theorem State.modRun_planSteps (i : SlotId) (f : RunContext → RunContext) : (s.modRun i f).planSteps = s.planSteps := rfl
@[simp] theorem State.modRun_zones (i : SlotId) (f : RunContext → RunContext) : (s.modRun i f).zones = s.zones := rfl
@[simp] theorem State.modRun_buses (i : SlotId) (f : RunContext → RunContext) : (s.modRun i f).buses = s.buses := rfl
@[simp] theorem State.modRun_metricTable (i : SlotId) (f : RunContext → RunContext) : (s.modRun i f).metricTable = s.metricTable := rfl
@[simp] theorem State.modRun_gradeTable (i : SlotId) (f : RunContext → RunContext) : (s.modRun i f).gradeTable = s.gradeTable := rfl
@[simp] theorem State.modRun_binMap (i : SlotId) (f : RunContext → RunContext) : (s.modRun i f).binMap = s.binMap := rfl
@[simp] theorem State.modRun_lanes (i : SlotId) (f : RunContext → RunContext) : (s.modRun i f).lanes = s.lanes := rfl
@[simp] theorem State.modRun_offsets (i : SlotId) (f : RunContext → RunContext) : (s.modRun i f).offsets = s.offsets := rfl
@[simp] theorem State.modRun_dispatch (i : SlotId) (f : RunContext → RunContext) : (s.modRun i f).dispatch = s.dispatch := rfl
@[simp] theorem State.modRun_handler (i : SlotId) (f : RunContext → RunContext) : (s.modRun i f).handler = s.handler := rfl
@[simp] theorem State.modRun_admissionDue (i : SlotId) (f : RunContext → RunContext) : (s.modRun i f).admissionDue = s.admissionDue := rfl
@[simp] theorem State.modRun_pickDue (i : SlotId) (f : RunContext → RunContext) : (s.modRun i f).pickDue = s.pickDue := rfl
@[simp] theorem State.modRun_pending (i : SlotId) (f : RunContext → RunContext) : (s.modRun i f).pending = s.pending := rfl

@[simp] theorem State.modSlotBus_now (i : SlotId) (f : BusContext → BusContext) : (s.modSlotBus i f).now = s.now := rfl
@[simp] theorem State.modSlotBus_mode (i : SlotId) (f : BusContext → BusContext) : (s.modSlotBus i f).mode = s.mode := rfl
@[simp] theorem State.modSlotBus_settings (i : SlotId) (f : BusContext → BusContext) : (s.modSlotBus i f).settings = s.settings := rfl
@[simp] theorem State.modSlotBus_cell (i : SlotId) (f : BusContext → BusContext) : (s.modSlotBus i f).cell = s.cell := rfl
@[simp] theorem State.modSlotBus_events (i : SlotId) (f : BusContext → BusContext) : (s.modSlotBus i f).events = s.events := rfl
@[simp] theorem State.modSlotBus_silence (i : SlotId) (f : BusContext → BusContext) : (s.modSlotBus i f).silence = s.silence := rfl
@[simp] theorem State.modSlotBus_admission (i : SlotId) (f : BusContext → BusContext) : (s.modSlotBus i f).admission = s.admission := rfl
@[simp] theorem State.modSlotBus_planHeads (i : SlotId) (f : BusContext → BusContext) : (s.modSlotBus i f).planHeads = s.planHeads := rfl
@[simp] theorem State.modSlotBus_planSteps (i : SlotId) (f : BusContext → BusContext) : (s.modSlotBus i f).planSteps = s.planSteps := rfl
@[simp] theorem State.modSlotBus_zones (i : SlotId) (f : BusContext → BusContext) : (s.modSlotBus i f).zones = s.zones := rfl
@[simp] theorem State.modSlotBus_buses (i : SlotId) (f : BusContext → BusContext) : (s.modSlotBus i f).buses = s.buses := rfl
@[simp] theorem State.modSlotBus_metricTable (i : SlotId) (f : BusContext → BusContext) : (s.modSlotBus i f).metricTable = s.metricTable := rfl
@[simp] theorem State.modSlotBus_gradeTable (i : SlotId) (f : BusContext → BusContext) : (s.modSlotBus i f).gradeTable = s.gradeTable := rfl
@[simp] theorem State.modSlotBus_binMap (i : SlotId) (f : BusContext → BusContext) : (s.modSlotBus i f).binMap = s.binMap := rfl
@[simp] theorem State.modSlotBus_lanes (i : SlotId) (f : BusContext → BusContext) : (s.modSlotBus i f).lanes = s.lanes := rfl
@[simp] theorem State.modSlotBus_offsets (i : SlotId) (f : BusContext → BusContext) : (s.modSlotBus i f).offsets = s.offsets := rfl
@[simp] theorem State.modSlotBus_dispatch (i : SlotId) (f : BusContext → BusContext) : (s.modSlotBus i f).dispatch = s.dispatch := rfl
@[simp] theorem State.modSlotBus_handler (i : SlotId) (f : BusContext → BusContext) : (s.modSlotBus i f).handler = s.handler := rfl
@[simp] theorem State.modSlotBus_admissionDue (i : SlotId) (f : BusContext → BusContext) : (s.modSlotBus i f).admissionDue = s.admissionDue := rfl
@[simp] theorem State.modSlotBus_pickDue (i : SlotId) (f : BusContext → BusContext) : (s.modSlotBus i f).pickDue = s.pickDue := rfl
@[simp] theorem State.modSlotBus_pending (i : SlotId) (f : BusContext → BusContext) : (s.modSlotBus i f).pending = s.pending := rfl

@[simp] theorem State.modZone_now (z : BayId) (f : Zone → Zone) : (s.modZone z f).now = s.now := rfl
@[simp] theorem State.modZone_mode (z : BayId) (f : Zone → Zone) : (s.modZone z f).mode = s.mode := rfl
@[simp] theorem State.modZone_settings (z : BayId) (f : Zone → Zone) : (s.modZone z f).settings = s.settings := rfl
@[simp] theorem State.modZone_cell (z : BayId) (f : Zone → Zone) : (s.modZone z f).cell = s.cell := rfl
@[simp] theorem State.modZone_events (z : BayId) (f : Zone → Zone) : (s.modZone z f).events = s.events := rfl
@[simp] theorem State.modZone_silence (z : BayId) (f : Zone → Zone) : (s.modZone z f).silence = s.silence := rfl
@[simp] theorem State.modZone_slots (z : BayId) (f : Zone → Zone) : (s.modZone z f).slots = s.slots := rfl
@[simp] theorem State.modZone_admission (z : BayId) (f : Zone → Zone) : (s.modZone z f).admission = s.admission := rfl
@[simp] theorem State.modZone_planHeads (z : BayId) (f : Zone → Zone) : (s.modZone z f).planHeads = s.planHeads := rfl
@[simp] theorem State.modZone_planSteps (z : BayId) (f : Zone → Zone) : (s.modZone z f).planSteps = s.planSteps := rfl
@[simp] theorem State.modZone_buses (z : BayId) (f : Zone → Zone) : (s.modZone z f).buses = s.buses := rfl
@[simp] theorem State.modZone_metricTable (z : BayId) (f : Zone → Zone) : (s.modZone z f).metricTable = s.metricTable := rfl
@[simp] theorem State.modZone_gradeTable (z : BayId) (f : Zone → Zone) : (s.modZone z f).gradeTable = s.gradeTable := rfl
@[simp] theorem State.modZone_binMap (z : BayId) (f : Zone → Zone) : (s.modZone z f).binMap = s.binMap := rfl
@[simp] theorem State.modZone_lanes (z : BayId) (f : Zone → Zone) : (s.modZone z f).lanes = s.lanes := rfl
@[simp] theorem State.modZone_offsets (z : BayId) (f : Zone → Zone) : (s.modZone z f).offsets = s.offsets := rfl
@[simp] theorem State.modZone_dispatch (z : BayId) (f : Zone → Zone) : (s.modZone z f).dispatch = s.dispatch := rfl
@[simp] theorem State.modZone_handler (z : BayId) (f : Zone → Zone) : (s.modZone z f).handler = s.handler := rfl
@[simp] theorem State.modZone_admissionDue (z : BayId) (f : Zone → Zone) : (s.modZone z f).admissionDue = s.admissionDue := rfl
@[simp] theorem State.modZone_pickDue (z : BayId) (f : Zone → Zone) : (s.modZone z f).pickDue = s.pickDue := rfl
@[simp] theorem State.modZone_pending (z : BayId) (f : Zone → Zone) : (s.modZone z f).pending = s.pending := rfl

@[simp] theorem State.modBus_now (b : BayId) (f : Bus → Bus) : (s.modBus b f).now = s.now := rfl
@[simp] theorem State.modBus_mode (b : BayId) (f : Bus → Bus) : (s.modBus b f).mode = s.mode := rfl
@[simp] theorem State.modBus_settings (b : BayId) (f : Bus → Bus) : (s.modBus b f).settings = s.settings := rfl
@[simp] theorem State.modBus_cell (b : BayId) (f : Bus → Bus) : (s.modBus b f).cell = s.cell := rfl
@[simp] theorem State.modBus_events (b : BayId) (f : Bus → Bus) : (s.modBus b f).events = s.events := rfl
@[simp] theorem State.modBus_silence (b : BayId) (f : Bus → Bus) : (s.modBus b f).silence = s.silence := rfl
@[simp] theorem State.modBus_slots (b : BayId) (f : Bus → Bus) : (s.modBus b f).slots = s.slots := rfl
@[simp] theorem State.modBus_admission (b : BayId) (f : Bus → Bus) : (s.modBus b f).admission = s.admission := rfl
@[simp] theorem State.modBus_planHeads (b : BayId) (f : Bus → Bus) : (s.modBus b f).planHeads = s.planHeads := rfl
@[simp] theorem State.modBus_planSteps (b : BayId) (f : Bus → Bus) : (s.modBus b f).planSteps = s.planSteps := rfl
@[simp] theorem State.modBus_zones (b : BayId) (f : Bus → Bus) : (s.modBus b f).zones = s.zones := rfl
@[simp] theorem State.modBus_metricTable (b : BayId) (f : Bus → Bus) : (s.modBus b f).metricTable = s.metricTable := rfl
@[simp] theorem State.modBus_gradeTable (b : BayId) (f : Bus → Bus) : (s.modBus b f).gradeTable = s.gradeTable := rfl
@[simp] theorem State.modBus_binMap (b : BayId) (f : Bus → Bus) : (s.modBus b f).binMap = s.binMap := rfl
@[simp] theorem State.modBus_lanes (b : BayId) (f : Bus → Bus) : (s.modBus b f).lanes = s.lanes := rfl
@[simp] theorem State.modBus_offsets (b : BayId) (f : Bus → Bus) : (s.modBus b f).offsets = s.offsets := rfl
@[simp] theorem State.modBus_dispatch (b : BayId) (f : Bus → Bus) : (s.modBus b f).dispatch = s.dispatch := rfl
@[simp] theorem State.modBus_handler (b : BayId) (f : Bus → Bus) : (s.modBus b f).handler = s.handler := rfl
@[simp] theorem State.modBus_admissionDue (b : BayId) (f : Bus → Bus) : (s.modBus b f).admissionDue = s.admissionDue := rfl
@[simp] theorem State.modBus_pickDue (b : BayId) (f : Bus → Bus) : (s.modBus b f).pickDue = s.pickDue := rfl
@[simp] theorem State.modBus_pending (b : BayId) (f : Bus → Bus) : (s.modBus b f).pending = s.pending := rfl

@[simp] theorem State.setLane_now (l : LaneId) (x : Lane) : (s.setLane l x).now = s.now := rfl
@[simp] theorem State.setLane_mode (l : LaneId) (x : Lane) : (s.setLane l x).mode = s.mode := rfl
@[simp] theorem State.setLane_settings (l : LaneId) (x : Lane) : (s.setLane l x).settings = s.settings := rfl
@[simp] theorem State.setLane_cell (l : LaneId) (x : Lane) : (s.setLane l x).cell = s.cell := rfl
@[simp] theorem State.setLane_events (l : LaneId) (x : Lane) : (s.setLane l x).events = s.events := rfl
@[simp] theorem State.setLane_silence (l : LaneId) (x : Lane) : (s.setLane l x).silence = s.silence := rfl
@[simp] theorem State.setLane_slots (l : LaneId) (x : Lane) : (s.setLane l x).slots = s.slots := rfl
@[simp] theorem State.setLane_admission (l : LaneId) (x : Lane) : (s.setLane l x).admission = s.admission := rfl
@[simp] theorem State.setLane_planHeads (l : LaneId) (x : Lane) : (s.setLane l x).planHeads = s.planHeads := rfl
@[simp] theorem State.setLane_planSteps (l : LaneId) (x : Lane) : (s.setLane l x).planSteps = s.planSteps := rfl
@[simp] theorem State.setLane_zones (l : LaneId) (x : Lane) : (s.setLane l x).zones = s.zones := rfl
@[simp] theorem State.setLane_buses (l : LaneId) (x : Lane) : (s.setLane l x).buses = s.buses := rfl
@[simp] theorem State.setLane_metricTable (l : LaneId) (x : Lane) : (s.setLane l x).metricTable = s.metricTable := rfl
@[simp] theorem State.setLane_gradeTable (l : LaneId) (x : Lane) : (s.setLane l x).gradeTable = s.gradeTable := rfl
@[simp] theorem State.setLane_binMap (l : LaneId) (x : Lane) : (s.setLane l x).binMap = s.binMap := rfl
@[simp] theorem State.setLane_offsets (l : LaneId) (x : Lane) : (s.setLane l x).offsets = s.offsets := rfl
@[simp] theorem State.setLane_dispatch (l : LaneId) (x : Lane) : (s.setLane l x).dispatch = s.dispatch := rfl
@[simp] theorem State.setLane_handler (l : LaneId) (x : Lane) : (s.setLane l x).handler = s.handler := rfl
@[simp] theorem State.setLane_admissionDue (l : LaneId) (x : Lane) : (s.setLane l x).admissionDue = s.admissionDue := rfl
@[simp] theorem State.setLane_pickDue (l : LaneId) (x : Lane) : (s.setLane l x).pickDue = s.pickDue := rfl
@[simp] theorem State.setLane_pending (l : LaneId) (x : Lane) : (s.setLane l x).pending = s.pending := rfl

@[simp] theorem State.setLevel_now (l : Fin 4) (q : List AdmissionEntry) : (s.setLevel l q).now = s.now := rfl
@[simp] theorem State.setLevel_mode (l : Fin 4) (q : List AdmissionEntry) : (s.setLevel l q).mode = s.mode := rfl
@[simp] theorem State.setLevel_settings (l : Fin 4) (q : List AdmissionEntry) : (s.setLevel l q).settings = s.settings := rfl
@[simp] theorem State.setLevel_cell (l : Fin 4) (q : List AdmissionEntry) : (s.setLevel l q).cell = s.cell := rfl
@[simp] theorem State.setLevel_events (l : Fin 4) (q : List AdmissionEntry) : (s.setLevel l q).events = s.events := rfl
@[simp] theorem State.setLevel_silence (l : Fin 4) (q : List AdmissionEntry) : (s.setLevel l q).silence = s.silence := rfl
@[simp] theorem State.setLevel_slots (l : Fin 4) (q : List AdmissionEntry) : (s.setLevel l q).slots = s.slots := rfl
@[simp] theorem State.setLevel_planHeads (l : Fin 4) (q : List AdmissionEntry) : (s.setLevel l q).planHeads = s.planHeads := rfl
@[simp] theorem State.setLevel_planSteps (l : Fin 4) (q : List AdmissionEntry) : (s.setLevel l q).planSteps = s.planSteps := rfl
@[simp] theorem State.setLevel_zones (l : Fin 4) (q : List AdmissionEntry) : (s.setLevel l q).zones = s.zones := rfl
@[simp] theorem State.setLevel_buses (l : Fin 4) (q : List AdmissionEntry) : (s.setLevel l q).buses = s.buses := rfl
@[simp] theorem State.setLevel_metricTable (l : Fin 4) (q : List AdmissionEntry) : (s.setLevel l q).metricTable = s.metricTable := rfl
@[simp] theorem State.setLevel_gradeTable (l : Fin 4) (q : List AdmissionEntry) : (s.setLevel l q).gradeTable = s.gradeTable := rfl
@[simp] theorem State.setLevel_binMap (l : Fin 4) (q : List AdmissionEntry) : (s.setLevel l q).binMap = s.binMap := rfl
@[simp] theorem State.setLevel_lanes (l : Fin 4) (q : List AdmissionEntry) : (s.setLevel l q).lanes = s.lanes := rfl
@[simp] theorem State.setLevel_offsets (l : Fin 4) (q : List AdmissionEntry) : (s.setLevel l q).offsets = s.offsets := rfl
@[simp] theorem State.setLevel_dispatch (l : Fin 4) (q : List AdmissionEntry) : (s.setLevel l q).dispatch = s.dispatch := rfl
@[simp] theorem State.setLevel_handler (l : Fin 4) (q : List AdmissionEntry) : (s.setLevel l q).handler = s.handler := rfl
@[simp] theorem State.setLevel_admissionDue (l : Fin 4) (q : List AdmissionEntry) : (s.setLevel l q).admissionDue = s.admissionDue := rfl
@[simp] theorem State.setLevel_pickDue (l : Fin 4) (q : List AdmissionEntry) : (s.setLevel l q).pickDue = s.pickDue := rfl
@[simp] theorem State.setLevel_pending (l : Fin 4) (q : List AdmissionEntry) : (s.setLevel l q).pending = s.pending := rfl

@[simp] theorem State.offer_now (e : Event) : (s.offer e).now = s.now := rfl
@[simp] theorem State.offer_mode (e : Event) : (s.offer e).mode = s.mode := rfl
@[simp] theorem State.offer_settings (e : Event) : (s.offer e).settings = s.settings := rfl
@[simp] theorem State.offer_cell (e : Event) : (s.offer e).cell = s.cell := rfl
@[simp] theorem State.offer_silence (e : Event) : (s.offer e).silence = s.silence := rfl
@[simp] theorem State.offer_slots (e : Event) : (s.offer e).slots = s.slots := rfl
@[simp] theorem State.offer_admission (e : Event) : (s.offer e).admission = s.admission := rfl
@[simp] theorem State.offer_planHeads (e : Event) : (s.offer e).planHeads = s.planHeads := rfl
@[simp] theorem State.offer_planSteps (e : Event) : (s.offer e).planSteps = s.planSteps := rfl
@[simp] theorem State.offer_zones (e : Event) : (s.offer e).zones = s.zones := rfl
@[simp] theorem State.offer_buses (e : Event) : (s.offer e).buses = s.buses := rfl
@[simp] theorem State.offer_metricTable (e : Event) : (s.offer e).metricTable = s.metricTable := rfl
@[simp] theorem State.offer_gradeTable (e : Event) : (s.offer e).gradeTable = s.gradeTable := rfl
@[simp] theorem State.offer_binMap (e : Event) : (s.offer e).binMap = s.binMap := rfl
@[simp] theorem State.offer_lanes (e : Event) : (s.offer e).lanes = s.lanes := rfl
@[simp] theorem State.offer_offsets (e : Event) : (s.offer e).offsets = s.offsets := rfl
@[simp] theorem State.offer_dispatch (e : Event) : (s.offer e).dispatch = s.dispatch := rfl
@[simp] theorem State.offer_handler (e : Event) : (s.offer e).handler = s.handler := rfl
@[simp] theorem State.offer_admissionDue (e : Event) : (s.offer e).admissionDue = s.admissionDue := rfl
@[simp] theorem State.offer_pickDue (e : Event) : (s.offer e).pickDue = s.pickDue := rfl
@[simp] theorem State.offer_pending (e : Event) : (s.offer e).pending = s.pending := rfl

@[simp] theorem State.callAdmission_now : (s.callAdmission).now = s.now := rfl
@[simp] theorem State.callAdmission_mode : (s.callAdmission).mode = s.mode := rfl
@[simp] theorem State.callAdmission_settings : (s.callAdmission).settings = s.settings := rfl
@[simp] theorem State.callAdmission_cell : (s.callAdmission).cell = s.cell := rfl
@[simp] theorem State.callAdmission_events : (s.callAdmission).events = s.events := rfl
@[simp] theorem State.callAdmission_silence : (s.callAdmission).silence = s.silence := rfl
@[simp] theorem State.callAdmission_slots : (s.callAdmission).slots = s.slots := rfl
@[simp] theorem State.callAdmission_admission : (s.callAdmission).admission = s.admission := rfl
@[simp] theorem State.callAdmission_planHeads : (s.callAdmission).planHeads = s.planHeads := rfl
@[simp] theorem State.callAdmission_planSteps : (s.callAdmission).planSteps = s.planSteps := rfl
@[simp] theorem State.callAdmission_zones : (s.callAdmission).zones = s.zones := rfl
@[simp] theorem State.callAdmission_buses : (s.callAdmission).buses = s.buses := rfl
@[simp] theorem State.callAdmission_metricTable : (s.callAdmission).metricTable = s.metricTable := rfl
@[simp] theorem State.callAdmission_gradeTable : (s.callAdmission).gradeTable = s.gradeTable := rfl
@[simp] theorem State.callAdmission_binMap : (s.callAdmission).binMap = s.binMap := rfl
@[simp] theorem State.callAdmission_lanes : (s.callAdmission).lanes = s.lanes := rfl
@[simp] theorem State.callAdmission_offsets : (s.callAdmission).offsets = s.offsets := rfl
@[simp] theorem State.callAdmission_dispatch : (s.callAdmission).dispatch = s.dispatch := rfl
@[simp] theorem State.callAdmission_handler : (s.callAdmission).handler = s.handler := rfl
@[simp] theorem State.callAdmission_pickDue : (s.callAdmission).pickDue = s.pickDue := rfl
@[simp] theorem State.callAdmission_pending : (s.callAdmission).pending = s.pending := rfl

@[simp] theorem State.callPick_now : (s.callPick).now = s.now := rfl
@[simp] theorem State.callPick_mode : (s.callPick).mode = s.mode := rfl
@[simp] theorem State.callPick_settings : (s.callPick).settings = s.settings := rfl
@[simp] theorem State.callPick_cell : (s.callPick).cell = s.cell := rfl
@[simp] theorem State.callPick_events : (s.callPick).events = s.events := rfl
@[simp] theorem State.callPick_silence : (s.callPick).silence = s.silence := rfl
@[simp] theorem State.callPick_slots : (s.callPick).slots = s.slots := rfl
@[simp] theorem State.callPick_admission : (s.callPick).admission = s.admission := rfl
@[simp] theorem State.callPick_planHeads : (s.callPick).planHeads = s.planHeads := rfl
@[simp] theorem State.callPick_planSteps : (s.callPick).planSteps = s.planSteps := rfl
@[simp] theorem State.callPick_zones : (s.callPick).zones = s.zones := rfl
@[simp] theorem State.callPick_buses : (s.callPick).buses = s.buses := rfl
@[simp] theorem State.callPick_metricTable : (s.callPick).metricTable = s.metricTable := rfl
@[simp] theorem State.callPick_gradeTable : (s.callPick).gradeTable = s.gradeTable := rfl
@[simp] theorem State.callPick_binMap : (s.callPick).binMap = s.binMap := rfl
@[simp] theorem State.callPick_lanes : (s.callPick).lanes = s.lanes := rfl
@[simp] theorem State.callPick_offsets : (s.callPick).offsets = s.offsets := rfl
@[simp] theorem State.callPick_dispatch : (s.callPick).dispatch = s.dispatch := rfl
@[simp] theorem State.callPick_handler : (s.callPick).handler = s.handler := rfl
@[simp] theorem State.callPick_admissionDue : (s.callPick).admissionDue = s.admissionDue := rfl
@[simp] theorem State.callPick_pending : (s.callPick).pending = s.pending := rfl

@[simp] theorem State.reach_mode (t : Nat) : (s.reach t).mode = s.mode := rfl
@[simp] theorem State.reach_settings (t : Nat) : (s.reach t).settings = s.settings := rfl
@[simp] theorem State.reach_cell (t : Nat) : (s.reach t).cell = s.cell := rfl
@[simp] theorem State.reach_events (t : Nat) : (s.reach t).events = s.events := rfl
@[simp] theorem State.reach_silence (t : Nat) : (s.reach t).silence = s.silence := rfl
@[simp] theorem State.reach_slots (t : Nat) : (s.reach t).slots = s.slots := rfl
@[simp] theorem State.reach_admission (t : Nat) : (s.reach t).admission = s.admission := rfl
@[simp] theorem State.reach_planHeads (t : Nat) : (s.reach t).planHeads = s.planHeads := rfl
@[simp] theorem State.reach_planSteps (t : Nat) : (s.reach t).planSteps = s.planSteps := rfl
@[simp] theorem State.reach_zones (t : Nat) : (s.reach t).zones = s.zones := rfl
@[simp] theorem State.reach_buses (t : Nat) : (s.reach t).buses = s.buses := rfl
@[simp] theorem State.reach_metricTable (t : Nat) : (s.reach t).metricTable = s.metricTable := rfl
@[simp] theorem State.reach_gradeTable (t : Nat) : (s.reach t).gradeTable = s.gradeTable := rfl
@[simp] theorem State.reach_binMap (t : Nat) : (s.reach t).binMap = s.binMap := rfl
@[simp] theorem State.reach_lanes (t : Nat) : (s.reach t).lanes = s.lanes := rfl
@[simp] theorem State.reach_offsets (t : Nat) : (s.reach t).offsets = s.offsets := rfl
@[simp] theorem State.reach_dispatch (t : Nat) : (s.reach t).dispatch = s.dispatch := rfl
@[simp] theorem State.reach_handler (t : Nat) : (s.reach t).handler = s.handler := rfl
@[simp] theorem State.reach_admissionDue (t : Nat) : (s.reach t).admissionDue = s.admissionDue := rfl
@[simp] theorem State.reach_pickDue (t : Nat) : (s.reach t).pickDue = s.pickDue := rfl
@[simp] theorem State.reach_pending (t : Nat) : (s.reach t).pending = s.pending := rfl

@[simp] theorem State.sendHandler_now (f : HandlerFrame) : (s.sendHandler f).now = s.now := rfl
@[simp] theorem State.sendHandler_mode (f : HandlerFrame) : (s.sendHandler f).mode = s.mode := rfl
@[simp] theorem State.sendHandler_settings (f : HandlerFrame) : (s.sendHandler f).settings = s.settings := rfl
@[simp] theorem State.sendHandler_cell (f : HandlerFrame) : (s.sendHandler f).cell = s.cell := rfl
@[simp] theorem State.sendHandler_events (f : HandlerFrame) : (s.sendHandler f).events = s.events := rfl
@[simp] theorem State.sendHandler_silence (f : HandlerFrame) : (s.sendHandler f).silence = s.silence := rfl
@[simp] theorem State.sendHandler_slots (f : HandlerFrame) : (s.sendHandler f).slots = s.slots := rfl
@[simp] theorem State.sendHandler_admission (f : HandlerFrame) : (s.sendHandler f).admission = s.admission := rfl
@[simp] theorem State.sendHandler_planHeads (f : HandlerFrame) : (s.sendHandler f).planHeads = s.planHeads := rfl
@[simp] theorem State.sendHandler_planSteps (f : HandlerFrame) : (s.sendHandler f).planSteps = s.planSteps := rfl
@[simp] theorem State.sendHandler_zones (f : HandlerFrame) : (s.sendHandler f).zones = s.zones := rfl
@[simp] theorem State.sendHandler_buses (f : HandlerFrame) : (s.sendHandler f).buses = s.buses := rfl
@[simp] theorem State.sendHandler_metricTable (f : HandlerFrame) : (s.sendHandler f).metricTable = s.metricTable := rfl
@[simp] theorem State.sendHandler_gradeTable (f : HandlerFrame) : (s.sendHandler f).gradeTable = s.gradeTable := rfl
@[simp] theorem State.sendHandler_binMap (f : HandlerFrame) : (s.sendHandler f).binMap = s.binMap := rfl
@[simp] theorem State.sendHandler_lanes (f : HandlerFrame) : (s.sendHandler f).lanes = s.lanes := rfl
@[simp] theorem State.sendHandler_offsets (f : HandlerFrame) : (s.sendHandler f).offsets = s.offsets := rfl
@[simp] theorem State.sendHandler_dispatch (f : HandlerFrame) : (s.sendHandler f).dispatch = s.dispatch := rfl
@[simp] theorem State.sendHandler_admissionDue (f : HandlerFrame) : (s.sendHandler f).admissionDue = s.admissionDue := rfl
@[simp] theorem State.sendHandler_pickDue (f : HandlerFrame) : (s.sendHandler f).pickDue = s.pickDue := rfl
@[simp] theorem State.sendHandler_pending (f : HandlerFrame) : (s.sendHandler f).pending = s.pending := rfl

/-! ### Fields an update writes -/

@[simp] theorem State.callAdmission_admissionDue : s.callAdmission.admissionDue = true := rfl
@[simp] theorem State.callPick_pickDue : s.callPick.pickDue = true := rfl
@[simp] theorem State.reach_now (t : Nat) : (s.reach t).now = max s.now t := rfl
@[simp] theorem State.offer_events (e : Event) : (s.offer e).events = s.events.offer e := rfl
@[simp] theorem EventPort.offer_enables (p : EventPort) (e : Event) : (p.offer e).enables = p.enables := by
  unfold EventPort.offer; split
  · split <;> rfl
  · rfl

/-! ### Slots -/

@[simp] theorem State.slot_setSlot (i : SlotId) (x : Slot) : (s.setSlot i x).slot i = x := by
  simp [State.slot, State.setSlot]

theorem State.slot_setSlot_ne (i j : SlotId) (x : Slot) (h : i ≠ j) : (s.setSlot i x).slot j = s.slot j := by
  have : i.val ≠ j.val := fun e => h (Fin.ext e)
  simp [State.slot, State.setSlot, this]

@[simp] theorem State.slot_modSlot (i : SlotId) (f : Slot → Slot) : (s.modSlot i f).slot i = f (s.slot i) := by
  simp [State.modSlot]

theorem State.slot_modSlot_ne (i j : SlotId) (f : Slot → Slot) (h : i ≠ j) : (s.modSlot i f).slot j = s.slot j :=
  s.slot_setSlot_ne i j _ h

theorem State.slot_modSlot_eq (i j : SlotId) (f : Slot → Slot) :
    (s.modSlot i f).slot j = if i = j then f (s.slot i) else s.slot j := by
  by_cases h : i = j
  · subst h; simp
  · simp [h, s.slot_modSlot_ne i j f h]

@[simp] theorem State.slot_modRecord (i : SlotId) (f : SlotRecord → SlotRecord) :
    (s.modRecord i f).slot i = { s.slot i with record := f (s.record i) } := by simp [State.modRecord, State.record]

@[simp] theorem State.record_modRecord (i : SlotId) (f : SlotRecord → SlotRecord) :
    (s.modRecord i f).record i = f (s.record i) := by simp [State.record, State.modRecord]

@[simp] theorem State.record_modSlot (i : SlotId) (f : Slot → Slot) :
    (s.modSlot i f).record i = (f (s.slot i)).record := by simp [State.record]

theorem State.record_modSlot_ne (i j : SlotId) (f : Slot → Slot) (h : i ≠ j) :
    (s.modSlot i f).record j = s.record j := by simp [State.record, s.slot_modSlot_ne i j f h]

theorem State.record_modRecord_ne (i j : SlotId) (f : SlotRecord → SlotRecord) (h : i ≠ j) :
    (s.modRecord i f).record j = s.record j := s.record_modSlot_ne i j _ h

@[simp] theorem State.record_modPower (i j : SlotId) (f : PowerContext → PowerContext) :
    (s.modPower i f).record j = s.record j := by
  simp only [State.record, State.modPower, State.slot_modSlot_eq]; split <;> simp_all

@[simp] theorem State.record_modRun (i j : SlotId) (f : RunContext → RunContext) :
    (s.modRun i f).record j = s.record j := by
  simp only [State.record, State.modRun, State.slot_modSlot_eq]; split <;> simp_all

@[simp] theorem State.record_modSlotBus (i j : SlotId) (f : BusContext → BusContext) :
    (s.modSlotBus i f).record j = s.record j := by
  simp only [State.record, State.modSlotBus, State.slot_modSlot_eq]; split <;> simp_all

@[simp] theorem State.power_modPower (i : SlotId) (f : PowerContext → PowerContext) :
    (s.modPower i f).power i = f (s.power i) := by simp [State.power, State.modPower]

@[simp] theorem State.power_modRecord (i j : SlotId) (f : SlotRecord → SlotRecord) :
    (s.modRecord i f).power j = s.power j := by
  simp only [State.power, State.modRecord, State.slot_modSlot_eq]; split <;> simp_all

@[simp] theorem State.run_modRun (i : SlotId) (f : RunContext → RunContext) :
    (s.modRun i f).run i = f (s.run i) := by simp [State.run, State.modRun]

@[simp] theorem State.run_modRecord (i j : SlotId) (f : SlotRecord → SlotRecord) :
    (s.modRecord i f).run j = s.run j := by
  simp only [State.run, State.modRecord, State.slot_modSlot_eq]; split <;> simp_all

@[simp] theorem State.run_modPower (i j : SlotId) (f : PowerContext → PowerContext) :
    (s.modPower i f).run j = s.run j := by
  simp only [State.run, State.modPower, State.slot_modSlot_eq]; split <;> simp_all

@[simp] theorem State.slotBus_modSlotBus (i : SlotId) (f : BusContext → BusContext) :
    (s.modSlotBus i f).slotBus i = f (s.slotBus i) := by simp [State.slotBus, State.modSlotBus]

@[simp] theorem State.slotBus_modRecord (i j : SlotId) (f : SlotRecord → SlotRecord) :
    (s.modRecord i f).slotBus j = s.slotBus j := by
  simp only [State.slotBus, State.modRecord, State.slot_modSlot_eq]; split <;> simp_all

@[simp] theorem State.slotBus_modRun (i j : SlotId) (f : RunContext → RunContext) :
    (s.modRun i f).slotBus j = s.slotBus j := by
  simp only [State.slotBus, State.modRun, State.slot_modSlot_eq]; split <;> simp_all

/-! Reading a slot passes through every update that does not write slots. -/

theorem State.slot_congr {s t : State} (h : t.slots = s.slots) (i : SlotId) : t.slot i = s.slot i := by
  simp [State.slot, h]

theorem State.record_congr {s t : State} (h : t.slots = s.slots) (i : SlotId) : t.record i = s.record i := by
  simp [State.record, State.slot_congr h]

@[simp] theorem State.slot_offer (e : Event) (i : SlotId) : (s.offer e).slot i = s.slot i := rfl
@[simp] theorem State.record_offer (e : Event) (i : SlotId) : (s.offer e).record i = s.record i := rfl
@[simp] theorem State.run_offer (e : Event) (i : SlotId) : (s.offer e).run i = s.run i := rfl
@[simp] theorem State.power_offer (e : Event) (i : SlotId) : (s.offer e).power i = s.power i := rfl
@[simp] theorem State.slot_modZone (z : BayId) (f : Zone → Zone) (i : SlotId) : (s.modZone z f).slot i = s.slot i := rfl
@[simp] theorem State.record_modZone (z : BayId) (f : Zone → Zone) (i : SlotId) :
    (s.modZone z f).record i = s.record i := rfl
@[simp] theorem State.slot_modBus (b : BayId) (f : Bus → Bus) (i : SlotId) : (s.modBus b f).slot i = s.slot i := rfl
@[simp] theorem State.record_modBus (b : BayId) (f : Bus → Bus) (i : SlotId) : (s.modBus b f).record i = s.record i := rfl
@[simp] theorem State.slot_callAdmission (i : SlotId) : s.callAdmission.slot i = s.slot i := rfl
@[simp] theorem State.record_callAdmission (i : SlotId) : s.callAdmission.record i = s.record i := rfl
@[simp] theorem State.slot_callPick (i : SlotId) : s.callPick.slot i = s.slot i := rfl
@[simp] theorem State.record_callPick (i : SlotId) : s.callPick.record i = s.record i := rfl
@[simp] theorem State.slot_reach (t : Nat) (i : SlotId) : (s.reach t).slot i = s.slot i := rfl
@[simp] theorem State.record_reach (t : Nat) (i : SlotId) : (s.reach t).record i = s.record i := rfl
@[simp] theorem State.run_reach (t : Nat) (i : SlotId) : (s.reach t).run i = s.run i := rfl
@[simp] theorem State.power_reach (t : Nat) (i : SlotId) : (s.reach t).power i = s.power i := rfl

/-! ### Zones, buses, lanes -/

@[simp] theorem State.zone_modZone (z : BayId) (f : Zone → Zone) : (s.modZone z f).zone z = f (s.zone z) := by
  simp [State.zone, State.modZone]

theorem State.zone_modZone_ne (z y : BayId) (f : Zone → Zone) (h : z ≠ y) : (s.modZone z f).zone y = s.zone y := by
  have : z.val ≠ y.val := fun e => h (Fin.ext e)
  simp [State.zone, State.modZone, this]

theorem State.zone_modZone_eq (z y : BayId) (f : Zone → Zone) :
    (s.modZone z f).zone y = if z = y then f (s.zone z) else s.zone y := by
  by_cases h : z = y
  · subst h; simp
  · simp [h, s.zone_modZone_ne z y f h]

theorem State.zone_congr {s t : State} (h : t.zones = s.zones) (z : BayId) : t.zone z = s.zone z := by
  simp [State.zone, h]

@[simp] theorem State.zone_offer (e : Event) (z : BayId) : (s.offer e).zone z = s.zone z := rfl
@[simp] theorem State.zone_reach (t : Nat) (z : BayId) : (s.reach t).zone z = s.zone z := rfl
@[simp] theorem State.zone_callAdmission (z : BayId) : s.callAdmission.zone z = s.zone z := rfl

@[simp] theorem State.bus_modBus (b : BayId) (f : Bus → Bus) : (s.modBus b f).bus b = f (s.bus b) := by
  simp [State.bus, State.modBus]

theorem State.bus_modBus_ne (b c : BayId) (f : Bus → Bus) (h : b ≠ c) : (s.modBus b f).bus c = s.bus c := by
  have : b.val ≠ c.val := fun e => h (Fin.ext e)
  simp [State.bus, State.modBus, this]

theorem State.bus_congr {s t : State} (h : t.buses = s.buses) (b : BayId) : t.bus b = s.bus b := by
  simp [State.bus, h]

@[simp] theorem State.bus_offer (e : Event) (b : BayId) : (s.offer e).bus b = s.bus b := rfl

@[simp] theorem State.lane_setLane (l : LaneId) (x : Lane) : (s.setLane l x).lane l = x := by
  simp [State.lane, State.setLane]

theorem State.lane_setLane_ne (l k : LaneId) (x : Lane) (h : l ≠ k) : (s.setLane l x).lane k = s.lane k := by
  have : l.val ≠ k.val := fun e => h (Fin.ext e)
  simp [State.lane, State.setLane, this]

theorem State.lane_congr {s t : State} (h : t.lanes = s.lanes) (l : LaneId) : t.lane l = s.lane l := by
  simp [State.lane, h]

@[simp] theorem State.lane_offer (e : Event) (l : LaneId) : (s.offer e).lane l = s.lane l := rfl

/-! ### The beginning of a zone's control period -/

@[simp] theorem Zone.beginPeriod_param (x : Zone) (d : Nat) : (x.beginPeriod d).param = x.entry := rfl
@[simp] theorem Zone.beginPeriod_periodDue (x : Zone) (d : Nat) : (x.beginPeriod d).periodDue = d := rfl
@[simp] theorem Zone.beginPeriod_entry (x : Zone) (d : Nat) : (x.beginPeriod d).entry = x.entry := rfl
@[simp] theorem Zone.beginPeriod_active (x : Zone) (d : Nat) : (x.beginPeriod d).active = x.active := rfl
@[simp] theorem Zone.beginPeriod_staged (x : Zone) (d : Nat) : (x.beginPeriod d).staged = x.staged := rfl
@[simp] theorem Zone.beginPeriod_state (x : Zone) (d : Nat) : (x.beginPeriod d).state = x.state := rfl
@[simp] theorem Zone.beginPeriod_left (x : Zone) (d : Nat) : (x.beginPeriod d).left = x.left := rfl
@[simp] theorem Zone.beginPeriod_position (x : Zone) (d : Nat) : (x.beginPeriod d).position = x.position := rfl
@[simp] theorem Zone.beginPeriod_degraded (x : Zone) (d : Nat) : (x.beginPeriod d).degraded = x.degraded := rfl
@[simp] theorem Zone.beginPeriod_reading0 (x : Zone) (d : Nat) : (x.beginPeriod d).reading0 = x.reading0 := rfl
@[simp] theorem Zone.beginPeriod_reading1 (x : Zone) (d : Nat) : (x.beginPeriod d).reading1 = x.reading1 := rfl
@[simp] theorem Zone.beginPeriod_temperature (x : Zone) (d : Nat) : (x.beginPeriod d).temperature = x.temperature := rfl
@[simp] theorem Zone.beginPeriod_heater (x : Zone) (d : Nat) : (x.beginPeriod d).heater = x.heater := rfl
@[simp] theorem Zone.beginPeriod_fan (x : Zone) (d : Nat) : (x.beginPeriod d).fan = x.fan := rfl
@[simp] theorem Zone.beginPeriod_report (x : Zone) (d : Nat) : (x.beginPeriod d).report = x.report := rfl

/-! ### Receivers -/

@[simp] theorem Receiver.afterGap_hunting (now : Nat) : Receiver.hunting.afterGap now = .hunting := rfl

/-- A byte no more than the gap limit after the last finds the partial frame. -/
theorem Receiver.afterGap_held {got : List Byte} {lastAt now : Nat} (h : now ≤ lastAt + Config.gapLimit) :
    (Receiver.assembling got lastAt).afterGap now = .assembling got lastAt := by
  simp [Receiver.afterGap, Nat.not_lt.2 h]

/-- A byte more than the gap limit after the last finds the receiver hunting. -/
theorem Receiver.afterGap_lapsed {got : List Byte} {lastAt now : Nat} (h : lastAt + Config.gapLimit < now) :
    (Receiver.assembling got lastAt).afterGap now = .hunting := by
  simp [Receiver.afterGap, h]

@[simp] theorem State.setReceiver_slots (link : FrameLink) (rx : Receiver) :
    (s.setReceiver link rx).slots = s.slots := by cases link <;> rfl
@[simp] theorem State.setReceiver_zones (link : FrameLink) (rx : Receiver) :
    (s.setReceiver link rx).zones = s.zones := by cases link <;> rfl
@[simp] theorem State.setReceiver_buses (link : FrameLink) (rx : Receiver) :
    (s.setReceiver link rx).buses = s.buses := by cases link <;> rfl
@[simp] theorem State.setReceiver_events (link : FrameLink) (rx : Receiver) :
    (s.setReceiver link rx).events = s.events := by cases link <;> rfl
@[simp] theorem State.setReceiver_silence (link : FrameLink) (rx : Receiver) :
    (s.setReceiver link rx).silence = s.silence := by cases link <;> rfl
@[simp] theorem State.setReceiver_settings (link : FrameLink) (rx : Receiver) :
    (s.setReceiver link rx).settings = s.settings := by cases link <;> rfl
@[simp] theorem State.setReceiver_admission (link : FrameLink) (rx : Receiver) :
    (s.setReceiver link rx).admission = s.admission := by cases link <;> rfl
@[simp] theorem State.setReceiver_dispatch (link : FrameLink) (rx : Receiver) :
    (s.setReceiver link rx).dispatch = s.dispatch := by cases link <;> rfl
@[simp] theorem State.setReceiver_now (link : FrameLink) (rx : Receiver) :
    (s.setReceiver link rx).now = s.now := by cases link <;> rfl
@[simp] theorem State.setReceiver_mode (link : FrameLink) (rx : Receiver) :
    (s.setReceiver link rx).mode = s.mode := by cases link <;> rfl
@[simp] theorem State.setReceiver_pending (link : FrameLink) (rx : Receiver) :
    (s.setReceiver link rx).pending = s.pending := by cases link <;> rfl
@[simp] theorem State.setReceiver_admissionDue (link : FrameLink) (rx : Receiver) :
    (s.setReceiver link rx).admissionDue = s.admissionDue := by cases link <;> rfl
@[simp] theorem State.setReceiver_pickDue (link : FrameLink) (rx : Receiver) :
    (s.setReceiver link rx).pickDue = s.pickDue := by cases link <;> rfl
@[simp] theorem State.receiver_setReceiver (link : FrameLink) (rx : Receiver) :
    (s.setReceiver link rx).receiver link = rx := by cases link <;> rfl

end Sys2Proof.Machine
end

