-- ==== Sys2Proof/Laws/OnSlot.lean ====
section
/-! SUPPORT. What the shared operations on one slot can do: they write that slot, its bus, the admission queue, the
dispatch queue and the two due marks, and they offer events; everything else they leave alone. -/

namespace Sys2Proof.Machine

/-- All that no shared operation on a slot writes. -/
structure Still where
  now : Nat
  mode : ShelfMode
  settings : Settings
  cell : CellPort
  enables : Enables
  silence : Silence
  planHeads : Vector PlanHead 8
  planSteps : Vector PlanStep 128
  zones : Vector Zone 4
  metricTable : Vector MetricEntry 6
  gradeTable : Vector GradeEntry 8
  binMap : Vector Destination 10
  lanes : Vector Lane 6
  offsets : Vector Int 48
  enabled : Bool
  stall : Option Stall
  manifest : List ManifestRecord
  nextRecord : Nat
  handler : HandlerPort
  pending : List Instr

/-- The still part of a state. -/
def State.still (s : State) : Still :=
  { now := s.now, mode := s.mode, settings := s.settings, cell := s.cell, enables := s.events.enables,
    silence := s.silence, planHeads := s.planHeads, planSteps := s.planSteps, zones := s.zones,
    metricTable := s.metricTable, gradeTable := s.gradeTable, binMap := s.binMap, lanes := s.lanes,
    offsets := s.offsets, enabled := s.dispatch.enabled, stall := s.dispatch.stall, manifest := s.dispatch.manifest,
    nextRecord := s.dispatch.nextRecord, handler := s.handler, pending := s.pending }

theorem EventPort.OfferedTo.refl (p : EventPort) : p.OfferedTo p := ⟨[], rfl⟩

theorem EventPort.OfferedTo.trans {p q r : EventPort} (h : p.OfferedTo q) (k : q.OfferedTo r) : p.OfferedTo r := by
  obtain ⟨l, rfl⟩ := h
  obtain ⟨m, rfl⟩ := k
  exact ⟨l ++ m, by rw [List.foldl_append]⟩

theorem EventPort.OfferedTo.enables {p q : EventPort} (h : p.OfferedTo q) : q.enables = p.enables := by
  obtain ⟨l, rfl⟩ := h
  induction l generalizing p with
  | nil => rfl
  | cons e l ih => simp [ih]

/-- An offer keeps the queue within its depth (R188). -/
theorem EventPort.offer_length (p : EventPort) (e : Event) (h : p.queue.length ≤ Config.eventDepth) :
    (p.offer e).queue.length ≤ Config.eventDepth := by
  unfold EventPort.offer
  split
  · split
    · simp; omega
    · exact h
  · exact h

theorem EventPort.OfferedTo.length {p q : EventPort} (h : p.OfferedTo q) (hp : p.queue.length ≤ Config.eventDepth) :
    q.queue.length ≤ Config.eventDepth := by
  obtain ⟨l, rfl⟩ := h
  induction l generalizing p with
  | nil => exact hp
  | cons e l ih => exact ih (p.offer_length e hp)

/-- t comes from s by work on slot i alone. -/
structure OnSlot (i : SlotId) (s t : State) : Prop where
  still : t.still = s.still
  events : s.events.OfferedTo t.events
  slots : ∀ j, j ≠ i → t.slot j = s.slot j
  buses : ∀ b, b ≠ bayOf i → t.bus b = s.bus b

namespace OnSlot

variable {i : SlotId} {s t u : State}

theorem refl (i : SlotId) (s : State) : OnSlot i s s :=
  ⟨rfl, .refl _, fun _ _ => rfl, fun _ _ => rfl⟩

theorem trans (h : OnSlot i s t) (k : OnSlot i t u) : OnSlot i s u :=
  ⟨k.still.trans h.still, h.events.trans k.events, fun j hj => (k.slots j hj).trans (h.slots j hj),
    fun b hb => (k.buses b hb).trans (h.buses b hb)⟩

theorem now (h : OnSlot i s t) : t.now = s.now := congrArg Still.now h.still
theorem mode (h : OnSlot i s t) : t.mode = s.mode := congrArg Still.mode h.still
theorem settings (h : OnSlot i s t) : t.settings = s.settings := congrArg Still.settings h.still
theorem cell (h : OnSlot i s t) : t.cell = s.cell := congrArg Still.cell h.still
theorem silence (h : OnSlot i s t) : t.silence = s.silence := congrArg Still.silence h.still
theorem planHeads (h : OnSlot i s t) : t.planHeads = s.planHeads := congrArg Still.planHeads h.still
theorem planSteps (h : OnSlot i s t) : t.planSteps = s.planSteps := congrArg Still.planSteps h.still
theorem zones (h : OnSlot i s t) : t.zones = s.zones := congrArg Still.zones h.still
theorem metricTable (h : OnSlot i s t) : t.metricTable = s.metricTable := congrArg Still.metricTable h.still
theorem gradeTable (h : OnSlot i s t) : t.gradeTable = s.gradeTable := congrArg Still.gradeTable h.still
theorem binMap (h : OnSlot i s t) : t.binMap = s.binMap := congrArg Still.binMap h.still
theorem lanes (h : OnSlot i s t) : t.lanes = s.lanes := congrArg Still.lanes h.still
theorem offsets (h : OnSlot i s t) : t.offsets = s.offsets := congrArg Still.offsets h.still
theorem enabled (h : OnSlot i s t) : t.dispatch.enabled = s.dispatch.enabled := congrArg Still.enabled h.still
theorem stall (h : OnSlot i s t) : t.dispatch.stall = s.dispatch.stall := congrArg Still.stall h.still
theorem manifest (h : OnSlot i s t) : t.dispatch.manifest = s.dispatch.manifest := congrArg Still.manifest h.still
theorem nextRecord (h : OnSlot i s t) : t.dispatch.nextRecord = s.dispatch.nextRecord :=
  congrArg Still.nextRecord h.still
theorem handler (h : OnSlot i s t) : t.handler = s.handler := congrArg Still.handler h.still
theorem pending (h : OnSlot i s t) : t.pending = s.pending := congrArg Still.pending h.still

/-! Primitive updates. -/

theorem ofSlot (h : OnSlot i s t) (f : Slot → Slot) : OnSlot i s (t.modSlot i f) :=
  h.trans ⟨rfl, .refl _, fun _ hj => State.slot_modSlot_ne _ _ _ _ hj.symm, fun _ _ => rfl⟩

theorem ofRecord (h : OnSlot i s t) (f : SlotRecord → SlotRecord) : OnSlot i s (t.modRecord i f) := h.ofSlot _
theorem ofPower (h : OnSlot i s t) (f : PowerContext → PowerContext) : OnSlot i s (t.modPower i f) := h.ofSlot _
theorem ofRun (h : OnSlot i s t) (f : RunContext → RunContext) : OnSlot i s (t.modRun i f) := h.ofSlot _
theorem ofSlotBus (h : OnSlot i s t) (f : BusContext → BusContext) : OnSlot i s (t.modSlotBus i f) := h.ofSlot _
theorem ofPosition (h : OnSlot i s t) (f : StepPosition → StepPosition) : OnSlot i s (t.modPosition i f) := h.ofRecord _
theorem ofPhase (h : OnSlot i s t) (p : StepPhase) (r : StepTimer) : OnSlot i s (t.setPhase i p r) := h.ofPosition _
theorem ofStop (h : OnSlot i s t) : OnSlot i s (t.stopTimer i) := h.ofPosition _

theorem ofOffer (h : OnSlot i s t) (e : Event) : OnSlot i s (t.offer e) :=
  h.trans ⟨by simp [State.still], ⟨[e], rfl⟩, fun _ _ => rfl, fun _ _ => rfl⟩

theorem ofAdmission (h : OnSlot i s t) : OnSlot i s t.callAdmission :=
  h.trans ⟨rfl, .refl _, fun _ _ => rfl, fun _ _ => rfl⟩

theorem ofBus (h : OnSlot i s t) (f : Bus → Bus) : OnSlot i s (t.modBus (bayOf i) f) :=
  h.trans ⟨rfl, .refl _, fun _ _ => rfl, fun _ hb => State.bus_modBus_ne _ _ _ _ hb.symm⟩

theorem ofQueue (h : OnSlot i s t) (q : Vector (List AdmissionEntry) 4) : OnSlot i s { t with admission := q } :=
  h.trans ⟨rfl, .refl _, fun _ _ => rfl, fun _ _ => rfl⟩

end OnSlot

variable (s : State) (i : SlotId)

/-! ### Life states -/

theorem State.endSnapshot_onSlot : OnSlot i s (s.endSnapshot i) := by
  unfold State.endSnapshot; split
  · exact ((OnSlot.refl i s).ofRecord _).ofOffer _
  · exact .refl i s

theorem State.makeFresh_onSlot : OnSlot i s (s.makeFresh i) := (OnSlot.refl i s).ofSlot _

theorem State.enter_onSlot (entered : LifeState) (cause : SlotCause) (fault : Option FaultCause) (hold : Option HoldReason) :
    OnSlot i s (s.enter i entered cause fault hold) := by
  unfold State.enter
  refine OnSlot.ofOffer (OnSlot.ofSlot ?_ _) _
  split
  · exact s.endSnapshot_onSlot i
  · exact .refl i s

theorem State.enterFresh_onSlot (entered : LifeState) (cause : SlotCause) (fault : Option FaultCause) :
    OnSlot i s (s.enterFresh i entered cause fault) := by
  unfold State.enterFresh
  refine OnSlot.trans ?_ (State.enter_onSlot _ i entered cause fault none)
  refine OnSlot.trans ?_ (State.makeFresh_onSlot _ i)
  split
  · exact s.endSnapshot_onSlot i
  · exact .refl i s

theorem State.grade_onSlot (forced : Option ForcedCause) : OnSlot i s (s.grade i forced) :=
  ((OnSlot.refl i s).ofRecord _).ofOffer _

/-! ### The outbound queue -/

theorem State.modSlotWindow_onSlot (f : Window → Window) : OnSlot i s (s.modSlotWindow i f) := by
  unfold State.modSlotWindow; split
  · exact (OnSlot.refl i s).ofBus _
  · exact .refl i s

theorem State.markRemoved_onSlot (f : QueuedFrame) : OnSlot i s (s.markRemoved i f) := by
  unfold State.markRemoved; split
  · exact s.modSlotWindow_onSlot i _
  · exact .refl i s

theorem State.dropFrame_onSlot (f : QueuedFrame) : OnSlot i s (s.dropFrame i f) :=
  (s.markRemoved_onSlot i f).ofSlotBus _

theorem State.pushFrame_onSlot (f : QueuedFrame) : OnSlot i s (s.pushFrame i f) := (OnSlot.refl i s).ofSlotBus _

theorem State.handOver_onSlot (m : Message) : OnSlot i s (s.handOver i m) := by
  unfold State.handOver
  refine OnSlot.ofRun ?_ _
  split
  · exact s.pushFrame_onSlot i _
  · exact (s.markRemoved_onSlot i _).ofSlotBus _
  · exact (s.dropFrame_onSlot i _).trans (State.pushFrame_onSlot _ i _)

theorem State.removeMessage_onSlot : OnSlot i s (s.removeMessage i) := by
  unfold State.removeMessage; split
  · exact (s.dropFrame_onSlot i _).ofRun _
  · exact .refl i s

theorem State.defer_onSlot (m : Message) : OnSlot i s (s.defer i m) := (OnSlot.refl i s).ofRun _

theorem State.endSlotWindow_onSlot : OnSlot i s (s.endSlotWindow i) := by
  unfold State.endSlotWindow; split
  · exact (OnSlot.refl i s).ofBus _
  · exact .refl i s

theorem State.offerAll_onSlot (l : List Event) : OnSlot i s (s.offerAll l) := by
  unfold State.offerAll
  induction l generalizing s with
  | nil => exact .refl i s
  | cons e l ih => exact ((OnSlot.refl i s).ofOffer e).trans (ih _)

theorem State.busPowerOff_onSlot : OnSlot i s (s.busPowerOff i) := by
  unfold State.busPowerOff
  exact ((s.endSlotWindow_onSlot i).trans (State.offerAll_onSlot _ i _)).ofSlotBus _

/-! ### Power -/

theorem State.joinAdmission_onSlot (kind : SpinKind) : OnSlot i s (s.joinAdmission i kind) :=
  (((OnSlot.refl i s).ofRecord _).ofQueue _).ofAdmission

theorem State.leaveAdmission_onSlot : OnSlot i s (s.leaveAdmission i) := ((OnSlot.refl i s).ofQueue _).ofAdmission

theorem State.powerOff_onSlot : OnSlot i s (s.powerOff i) :=
  (((OnSlot.refl i s).ofSlot _).trans (State.busPowerOff_onSlot _ i)).ofAdmission

theorem State.takeSpinup_onSlot : OnSlot i s (s.takeSpinup i) := ((OnSlot.refl i s).ofSlot _).ofAdmission

/-! ### The dispatch queue -/

theorem State.joinDispatch_onSlot : OnSlot i s (s.joinDispatch i) :=
  ⟨rfl, .refl _, fun _ _ => rfl, fun _ _ => rfl⟩

theorem State.leaveDispatch_onSlot : OnSlot i s (s.leaveDispatch i) :=
  ⟨rfl, .refl _, fun _ _ => rfl, fun _ _ => rfl⟩

theorem State.markOffered_onSlot (v : Bool) : OnSlot i s (s.markOffered i v) :=
  ⟨rfl, .refl _, fun _ _ => rfl, fun _ _ => rfl⟩

theorem State.placeByBin_onSlot (cause : SlotCause) (reason : HoldReason) :
    OnSlot i s (s.placeByBin i cause reason) := by
  unfold State.placeByBin
  split
  · split
    · exact (s.enter_onSlot i _ _ _ _).trans (State.joinDispatch_onSlot _ i)
    · exact s.enter_onSlot i _ _ _ _
  · exact s.enter_onSlot i _ _ _ _

/-! ### Runs -/

theorem State.startRun_onSlot (p : PlanId) (priority : Fin 4) (cause : SlotCause) :
    OnSlot i s (s.startRun i p priority cause) :=
  (((OnSlot.refl i s).ofSlot _).trans (State.enter_onSlot _ i _ _ _ _)).trans (State.joinAdmission_onSlot _ i _)

theorem State.considerAutostart_onSlot : OnSlot i s (s.considerAutostart i) := by
  unfold State.considerAutostart
  split
  · split
    · exact s.startRun_onSlot i _ _ _
    · exact .refl i s
  · exact .refl i s

theorem State.enterBetween_onSlot (k : Nat) : OnSlot i s (s.enterBetween i k) := (OnSlot.refl i s).ofSlot _

theorem State.cyclePowerOff_onSlot : OnSlot i s (s.cyclePowerOff i) := (s.powerOff_onSlot i).ofPhase _ _

theorem State.goOff_onSlot : OnSlot i s (s.goOff i) := by
  have h := (OnSlot.refl i s).ofPhase .cycleOff .none
  unfold State.goOff
  simp only
  split
  · split
    · exact h.trans (State.handOver_onSlot _ i _)
    · exact h.trans (State.defer_onSlot _ i _)
  · exact h.trans (State.cyclePowerOff_onSlot _ i)

theorem State.beginKind_onSlot : OnSlot i s (s.beginKind i).1 := by
  unfold State.beginKind
  simp only
  split
  · split
    · exact .refl i s
    · have h := (OnSlot.refl i s).ofPhase .starting .none
      split
      · exact h.trans (State.handOver_onSlot _ i _)
      · exact h.trans (State.defer_onSlot _ i _)
  · exact (OnSlot.refl i s).ofPhase _ _
  · exact ((OnSlot.refl i s).ofPosition _).trans (State.goOff_onSlot _ i)

theorem State.judgeStep_onSlot : OnSlot i s (s.judgeStep i).1 := by
  unfold State.judgeStep
  simp only
  split
  · exact .refl i s
  · exact s.beginKind_onSlot i
  · split
    · exact .refl i s
    · split
      · exact s.beginKind_onSlot i
      · exact (OnSlot.refl i s).ofPhase _ _

theorem State.closeStep_onSlot (o : StepOutcome) : OnSlot i s (s.closeStep i o) :=
  ((((OnSlot.refl i s).ofStop).ofRecord _).ofRecord _).ofOffer _

theorem State.failBegun_onSlot (r : FailReason) : OnSlot i s (s.failBegun i r) := by
  unfold State.failBegun; split
  · exact s.closeStep_onSlot i _
  · exact .refl i s

theorem State.spunDown_onSlot : OnSlot i s (s.spunDown i) := by
  unfold State.spunDown; split
  · exact s.enter_onSlot i _ _ _ _
  · exact s.placeByBin_onSlot i _ _

theorem State.beginSpinDown_onSlot : OnSlot i s (s.beginSpinDown i) := by
  unfold State.beginSpinDown
  split
  · simp only
    split
    · exact ((OnSlot.refl i s).ofRun _).trans (State.spunDown_onSlot _ i)
    · exact (OnSlot.refl i s).ofRun _
  · exact ((OnSlot.refl i s).ofRun _).trans (State.spunDown_onSlot _ i)

theorem State.beginParking_onSlot : OnSlot i s (s.beginParking i) := by
  unfold State.beginParking
  simp only
  split
  · split
    · have h := (OnSlot.refl i s).ofRun fun c => { c with stage := .parkWait }
      split
      · exact h.trans (State.handOver_onSlot _ i _)
      · exact h.trans (State.defer_onSlot _ i _)
    · exact (s.powerOff_onSlot i).trans (State.beginSpinDown_onSlot _ i)
  · exact (s.powerOff_onSlot i).trans (State.beginSpinDown_onSlot _ i)
  · exact s.beginSpinDown_onSlot i

theorem State.planEnd_onSlot (forced : Option ForcedCause) : OnSlot i s (s.planEnd i forced) :=
  (((((OnSlot.refl i s).ofStop).ofRun _).trans (State.grade_onSlot _ i _)).trans
    (State.enter_onSlot _ i _ _ _ _)).trans (State.beginParking_onSlot _ i)

theorem State.endStepOnce_onSlot (o : StepOutcome) : OnSlot i s (s.endStepOnce i o).1 := by
  unfold State.endStepOnce
  simp only
  split
  · exact (s.closeStep_onSlot i o).trans (State.planEnd_onSlot _ i _)
  · exact ((s.closeStep_onSlot i o).trans (State.enterBetween_onSlot _ i _)).trans (State.judgeStep_onSlot _ i)

theorem State.endStepLoop_onSlot (n : Nat) (o : StepOutcome) : OnSlot i s (State.endStepLoop n i o s) := by
  induction n generalizing s o with
  | zero => exact .refl i s
  | succ n ih =>
    unfold State.endStepLoop
    have h := s.endStepOnce_onSlot i o
    split
    · next he => rw [he] at h; exact h
    · next he => rw [he] at h; exact h.trans (ih _ _)

theorem State.endStep_onSlot (o : StepOutcome) : OnSlot i s (s.endStep i o) := s.endStepLoop_onSlot i 16 o

theorem State.settleStep_onSlot (r : State × Option StepOutcome) (h : OnSlot i s r.1) :
    OnSlot i s (State.settleStep i r) := by
  obtain ⟨t, o⟩ := r
  cases o with
  | none => exact h
  | some o => exact h.trans (State.endStep_onSlot t i o)

theorem State.beginSteps_onSlot : OnSlot i s (s.beginSteps i) :=
  s.settleStep_onSlot i _ ((s.enterBetween_onSlot i 0).trans (State.judgeStep_onSlot _ i))

theorem State.openGate_onSlot : OnSlot i s (s.openGate i) :=
  s.settleStep_onSlot i _ (((OnSlot.refl i s).ofStop).trans (State.beginKind_onSlot _ i))

theorem State.spinupTaken_onSlot (kind : SpinKind) : OnSlot i s (s.spinupTaken i kind) := by
  unfold State.spinupTaken
  split
  · have h := (OnSlot.refl i s).ofRun fun r => { r with stage := .identify }
    simp only
    split
    · exact h.trans (State.handOver_onSlot _ i _)
    · exact h.trans (State.beginSteps_onSlot _ i)
  · split
    · split
      · exact s.endStep_onSlot i _
      · exact (OnSlot.refl i s).ofPhase _ _
    · exact .refl i s

theorem State.nextCycleOff_onSlot : OnSlot i s (s.nextCycleOff i) := (OnSlot.refl i s).ofPosition _

theorem State.spinupFailed_onSlot (kind : SpinKind) : OnSlot i s (s.spinupFailed i kind) := by
  unfold State.spinupFailed
  split
  · exact s.planEnd_onSlot i _
  · simp only
    split
    · split
      · exact (((OnSlot.refl i s).ofRecord _).trans (State.closeStep_onSlot _ i _)).trans (State.planEnd_onSlot _ i _)
      · exact ((OnSlot.refl i s).ofRecord _).trans (State.nextCycleOff_onSlot _ i)
    · exact (OnSlot.refl i s).ofRecord _

theorem State.faultRun_onSlot (r : FailReason) (fault : FaultCause) (cause : SlotCause) :
    OnSlot i s (s.faultRun i r fault cause) :=
  (((s.failBegun_onSlot i r).ofRun _).ofStop).trans (State.enter_onSlot _ i _ _ _ _)

theorem State.parkEnded_onSlot : OnSlot i s (s.parkEnded i) := by
  unfold State.parkEnded
  split
  · exact (s.powerOff_onSlot i).trans (State.beginSpinDown_onSlot _ i)
  · split
    · exact s.cyclePowerOff_onSlot i
    · exact .refl i s

theorem State.releaseDeferred_onSlot : OnSlot i s (s.releaseDeferred i) := by
  unfold State.releaseDeferred
  simp only
  split
  · exact .refl i s
  · have h := (OnSlot.refl i s).ofRun fun r => { r with deferred := none }
    split
    · split
      · exact h.trans (State.parkEnded_onSlot _ i)
      · exact h.trans (State.handOver_onSlot _ i _)
    · split
      · split
        · exact h.trans (State.endStep_onSlot _ i _)
        · exact h.trans (State.handOver_onSlot _ i _)
      · exact h
    · exact h
    · exact h

theorem State.endOutstanding_onSlot : OnSlot i s (s.endOutstanding i) := (OnSlot.refl i s).ofRun _

theorem State.messageAnswered_onSlot (m : Message) (naked : Bool) : OnSlot i s (s.messageAnswered i m naked) := by
  have h := s.endOutstanding_onSlot i
  unfold State.messageAnswered
  simp only
  split
  · split
    · exact h.trans (State.beginSteps_onSlot _ i)
    · exact h
  · split
    · split
      · exact h.trans (State.endStep_onSlot _ i _)
      · exact h.ofPhase _ _
    · exact h
  · exact h.trans (State.releaseDeferred_onSlot _ i)
  · exact h.trans (State.parkEnded_onSlot _ i)

theorem State.linkLostTo_onSlot (gone : Option Message) : OnSlot i s (s.linkLostTo i gone) := by
  unfold State.linkLostTo
  have h : OnSlot i s (if gone.isSome then s.endOutstanding i else s) := by
    split
    · exact s.endOutstanding_onSlot i
    · exact .refl i s
  generalize (if gone.isSome then s.endOutstanding i else s) = s1 at h
  simp only
  split
  · exact (h.trans (State.removeMessage_onSlot _ i)).trans (State.beginSteps_onSlot _ i)
  · split
    · refine OnSlot.trans (OnSlot.ofRun ?_ _) (State.endStep_onSlot _ i _)
      split
      · exact h
      · exact h.trans (State.removeMessage_onSlot _ i)
    · split
      · exact (h.trans (State.handOver_onSlot _ i _)).trans (State.endStep_onSlot _ i _)
      · split
        · split
          · exact h
          · exact ((h.trans (State.removeMessage_onSlot _ i)).ofRun _).trans (State.parkEnded_onSlot _ i)
        · split
          · exact h.trans (State.releaseDeferred_onSlot _ i)
          · exact h

theorem State.messageDropped_onSlot (m : Message) : OnSlot i s (s.messageDropped i m) := by
  have h := s.endOutstanding_onSlot i
  unfold State.messageDropped
  simp only
  split
  · exact h.trans (State.releaseDeferred_onSlot _ i)
  · exact h.trans (State.parkEnded_onSlot _ i)
  · split
    · exact h.trans (State.beginSteps_onSlot _ i)
    · exact h
  · split
    · exact h.trans (State.endStep_onSlot _ i _)
    · exact h

theorem State.abortRun_onSlot (d : Disposition) : OnSlot i s (s.abortRun i d) := by
  unfold State.abortRun
  have h1 : OnSlot i s (if (s.run i).outstanding = some .stopTest then s else s.removeMessage i) := by
    split
    · exact .refl i s
    · exact s.removeMessage_onSlot i
  generalize (if (s.run i).outstanding = some .stopTest then s else s.removeMessage i) = s1 at h1
  have h2 := h1.ofRun fun r => { r with deferred := none }
  simp only
  generalize (s1.modRun i fun r => { r with deferred := none }) = s2 at h2
  have h3 : OnSlot i s
      (if (s2.driveRunning i && (s2.run i).outstanding != some .stopTest) = true then s2.handOver i .stopTest else s2) := by
    split
    · exact h2.trans (State.handOver_onSlot _ i _)
    · exact h2
  generalize
    (if (s2.driveRunning i && (s2.run i).outstanding != some .stopTest) = true then s2.handOver i .stopTest else s2)
      = s3 at h3
  have h4 := h3.trans (State.failBegun_onSlot s3 i .aborted)
  split
  · exact h4.trans (State.grade_onSlot _ i _)
  · exact h4

theorem State.judgeGate_onSlot : OnSlot i s (s.judgeGate i) := by
  unfold State.judgeGate; split
  · exact s.openGate_onSlot i
  · exact .refl i s

theorem State.tripSlot_onSlot : OnSlot i s (s.tripSlot i) := by
  unfold State.tripSlot
  split
  · exact (s.powerOff_onSlot i).trans (State.faultRun_onSlot _ i _ _ _)
  · exact (s.powerOff_onSlot i).trans (State.faultRun_onSlot _ i _ _ _)
  · exact (s.leaveAdmission_onSlot i).trans (State.faultRun_onSlot _ i _ _ _)
  · exact s.faultRun_onSlot i _ _ _
  · simp only
    split
    · exact (s.powerOff_onSlot i).trans (State.beginSpinDown_onSlot _ i)
    · exact s.powerOff_onSlot i
  · exact .refl i s

/-- A spin-up whose ready line has just risen, taken by the Power Sequencer: the slot is as `Slot.capturedNow` says, and
an admission run is called for. -/
theorem State.takeSpinup_eq (i : SlotId) (a : RunAmounts) (t0 : Nat) (ha : (s.power i).amounts = some a)
    (ht : (s.record i).powerOnAt = some t0) :
    (s.modSlot i fun x => { x with ready := true }).takeSpinup i =
      { s with
        slots := s.slotsWith i ((s.slot i).capturedNow a.running s.now t0 s.settings.readyGuard)
        admissionDue := true } := by
  simp only [State.power, State.record, State.slot] at ha ht
  simp [State.takeSpinup, State.callAdmission, State.modSlot, State.setSlot, State.slot, State.slotsWith,
    Slot.capturedNow, saturate, ha, ht]

end Sys2Proof.Machine
end

