-- ==== Sys2Proof/Laws/Ending.lean ====
section
/-! SUPPORT. What ends every command: the admission run, the pick selection and the two lines (R33, R161, R184, R199),
and what each of them leaves alone. -/

namespace Sys2Proof.Machine

variable {s t u : State}

/-! ### Admission runs -/

/-- t comes from s by admissions alone: only the admission queue is written, and of each slot what an admission gives. -/
structure AdmittedFrom (s t : State) : Prop where
  rest : t = { s with slots := t.slots, admission := t.admission }
  slots : ∀ j, s.OnlyAdmitted j t

theorem State.OnlyAdmitted.refl (s : State) (j : SlotId) : s.OnlyAdmitted j s := ⟨rfl, rfl, rfl, rfl, rfl⟩

theorem State.OnlyAdmitted.trans {j : SlotId} (h : s.OnlyAdmitted j t) (k : t.OnlyAdmitted j u) :
    s.OnlyAdmitted j u := by
  obtain ⟨h1, h2, h3, h4, h5⟩ := h
  obtain ⟨k1, k2, k3, k4, k5⟩ := k
  refine ⟨k1.trans h1, k2.trans h2, k3.trans h3, k4.trans h4, ?_⟩
  rw [k5, h5]

namespace AdmittedFrom

theorem refl (s : State) : AdmittedFrom s s := ⟨rfl, fun j => .refl s j⟩

theorem trans (h : AdmittedFrom s t) (k : AdmittedFrom t u) : AdmittedFrom s u :=
  ⟨by rw [k.rest, h.rest], fun j => (h.slots j).trans (k.slots j)⟩

end AdmittedFrom

@[simp] theorem State.setLevel_slot (s : State) (l : Fin 4) (q : List AdmissionEntry) (j : SlotId) :
    (s.setLevel l q).slot j = s.slot j := rfl

/-- An admission (R34) writes the admission queue and, of the slot admitted, its reservation, power and phase. -/
theorem State.admitEntry_from (s : State) (l : Fin 4) (e : AdmissionEntry) : AdmittedFrom s (s.admitEntry l e) := by
  refine ⟨rfl, fun j => ?_⟩
  by_cases h : e.slot = j
  · subst h
    refine ⟨?_, ?_, ?_, ?_, ?_⟩ <;> simp [State.admitEntry, State.run, State.slotBus, State.record]
  · have hs : (s.admitEntry l e).slot j = s.slot j := by
      simp [State.admitEntry, State.slot_modSlot_ne _ _ _ _ h]
    exact ⟨by simp [State.run, hs], by simp [State.slotBus, hs], by simp [hs], by simp [hs],
      by simp [State.record, hs]⟩

/-- An admission writes what `State.admitted` says of its entry, the rest of its level standing behind it. -/
theorem State.admitEntry_eq (s : State) (l : Fin 4) (e : AdmissionEntry) :
    s.admitEntry l e = s.admitted l e (s.level l).tail := by
  cases h : e.kind <;>
    simp [State.admitEntry, State.admitted, State.modSlot, State.setSlot, State.setLevel, State.slotsWith,
      Slot.admittedBy, State.slot, Config.samplePeriod, h]

theorem State.admissionLoop_from (n : Nat) (s : State) : AdmittedFrom s (State.admissionLoop n s) := by
  induction n generalizing s with
  | zero => exact .refl s
  | succ n ih =>
    unfold State.admissionLoop
    split
    · split
      · exact (s.admitEntry_from _ _).trans (ih _)
      · exact .refl s
    · exact .refl s

theorem State.admissionRun_from (s : State) : AdmittedFrom s s.admissionRun := by
  unfold State.admissionRun
  split
  · exact s.admissionLoop_from _
  · exact .refl s

/-- In SAFE no admission run is made (R50). -/
theorem State.admissionRun_safe (s : State) (h : s.mode = .safe) : s.admissionRun = s := by
  simp [State.admissionRun, h]

/-- The admission run a command has called for leaves the mark clear, and comes about by admissions alone (R33). -/
theorem State.settleAdmission_from (s : State) :
    s.settleAdmission.admissionDue = false ∧
      AdmittedFrom { s with admissionDue := false } s.settleAdmission := by
  unfold State.settleAdmission
  split
  · have h := State.admissionRun_from { s with admissionDue := false }
    exact ⟨by rw [h.rest], h⟩
  · next h =>
    have e : { s with admissionDue := false } = s := by
      have : s.admissionDue = false := by simpa using h
      rw [← this]
    rw [e]
    exact ⟨by simpa using h, .refl s⟩

/-! ### Pick selections -/

/-- t comes from s by a pick selection: only marks of the dispatch queue, events and the Handler Link Port are written. -/
structure PickedFrom (s t : State) : Prop where
  rest : t = { s with
    dispatch := { s.dispatch with queue := t.dispatch.queue }, events := t.events, handler := t.handler }
  events : s.events.OfferedTo t.events
  queue : t.dispatch.queue.map DispatchEntry.slot = s.dispatch.queue.map DispatchEntry.slot
  closed : t.handler.line = s.handler.line ∧ t.handler.rx = s.handler.rx

namespace PickedFrom

theorem refl (s : State) : PickedFrom s s := ⟨rfl, .refl _, rfl, rfl, rfl⟩

end PickedFrom

theorem State.markOffered_slots (s : State) (i : SlotId) (v : Bool) :
    (s.markOffered i v).dispatch.queue.map DispatchEntry.slot = s.dispatch.queue.map DispatchEntry.slot := by
  simp only [State.markOffered, List.map_map]
  refine List.map_congr_left fun e _ => ?_
  simp only [Function.comp]
  split <;> rfl

theorem State.offerPick_from (s : State) (i : SlotId) (l : LaneId) : PickedFrom s (s.offerPick i l) := by
  refine ⟨?_, ⟨[.transfer (some .pick) (some i) (some l) s.handler.transfer.state .offered .offered], ?_⟩,
    s.markOffered_slots i true, rfl, rfl⟩
  · simp [State.offerPick, State.moveTransfer, State.markOffered, State.sendHandler, State.offer]
  · rfl

theorem State.pickSelection_from (s : State) : PickedFrom s s.pickSelection := by
  unfold State.pickSelection
  split
  · split
    · exact s.offerPick_from _ _
    · exact .refl s
  · exact .refl s

/-- A pick selection offers nothing where a pick may not be offered (R161). -/
theorem State.pickSelection_none (s : State) (h : s.mayPick = false) : s.pickSelection = s := by
  simp [State.pickSelection, h]

theorem State.settlePick_from (s : State) :
    s.settlePick.pickDue = false ∧ PickedFrom { s with pickDue := false } s.settlePick := by
  unfold State.settlePick
  split
  · have h := State.pickSelection_from { s with pickDue := false }
    exact ⟨by rw [h.rest], h⟩
  · next h =>
    have e : { s with pickDue := false } = s := by
      have : s.pickDue = false := by simpa using h
      rw [← this]
    rw [e]
    exact ⟨by simpa using h, .refl s⟩

/-! ### The lines -/

/-- The Cell Link's line begins at most one frame: only the line, the lists it takes from and the event queue change. -/
theorem State.pumpCell_rest (s : State) :
    s.pumpCell = { s with
      cell := s.pumpCell.cell, events := { s.events with queue := s.pumpCell.events.queue } } := by
  unfold State.pumpCell; split <;> try rfl
  split <;> rfl

/-- The receiver, the input queue and the restart stage are no concern of the line. -/
theorem State.pumpCell_cell (s : State) :
    s.pumpCell.cell.rx = s.cell.rx ∧ s.pumpCell.cell.input = s.cell.input ∧
      s.pumpCell.cell.restart = s.cell.restart := by
  unfold State.pumpCell; split <;> try exact ⟨rfl, rfl, rfl⟩
  split <;> exact ⟨rfl, rfl, rfl⟩

/-- After it the line is taken, or has nothing it could begin (R184, R195). -/
theorem State.pumpCell_atRest (s : State) : s.pumpCell.LineAtRest := by
  unfold State.pumpCell
  split <;> simp_all [State.LineAtRest]
  split <;> simp_all

/-- The Handler Link's line begins at most one frame. -/
theorem State.pumpHandler_rest (s : State) :
    s.pumpHandler = { s with
      handler := { s.handler with out := s.pumpHandler.handler.out, line := s.pumpHandler.handler.line } } := by
  unfold State.pumpHandler; split <;> rfl

/-- After it the line is taken, or no frame waits (R199). -/
theorem State.pumpHandler_atRest (s : State) :
    s.pumpHandler.handler.line = none → s.pumpHandler.handler.out = [] := by
  unfold State.pumpHandler
  split
  · simp
  · next h =>
    intro hl
    match ho : s.handler.out with
    | [] => rfl
    | f :: rest => exact absurd ho (h f rest hl)

/-! ### The end of a command -/

/-- The end of a command writes the slots and the admission queue, marks of the dispatch queue, events, and the two
ports; both marks are clear after it. -/
theorem State.finish_rest (s : State) :
    s.finish = { s with
      slots := s.finish.slots, admission := s.finish.admission
      dispatch := { s.dispatch with queue := s.finish.dispatch.queue }
      events := s.finish.events, handler := s.finish.handler, cell := s.finish.cell
      admissionDue := false, pickDue := false } := by
  obtain ⟨ha, h1⟩ := s.settleAdmission_from
  obtain ⟨hp, h2⟩ := s.settleAdmission.settlePick_from
  unfold State.finish
  rw [State.pumpHandler_rest, State.pumpCell_rest, h2.rest, h1.rest]

/-- Of every slot the end of a command changes what an admission gives it, and nothing else (R34). -/
theorem State.finish_slots (s : State) (j : SlotId) : s.OnlyAdmitted j s.finish := by
  obtain ⟨-, h1⟩ := s.settleAdmission_from
  obtain ⟨-, h2⟩ := s.settleAdmission.settlePick_from
  have hs : s.finish.slots = s.settleAdmission.slots := by
    unfold State.finish
    rw [State.pumpHandler_rest, State.pumpCell_rest, h2.rest]
  have h := h1.slots j
  simp only [State.OnlyAdmitted, State.run, State.slotBus, State.record, State.slot, hs] at h ⊢
  exact h

/-- The receiver, the input queue and the restart stage of the Cell Link are no concern of a command's end. -/
theorem State.finish_cell (s : State) :
    s.finish.cell.rx = s.cell.rx ∧ s.finish.cell.input = s.cell.input ∧ s.finish.cell.restart = s.cell.restart := by
  obtain ⟨-, h1⟩ := s.settleAdmission_from
  obtain ⟨-, h2⟩ := s.settleAdmission.settlePick_from
  have hc : s.finish.cell = s.settleAdmission.settlePick.pumpCell.cell := by
    unfold State.finish; rw [State.pumpHandler_rest]
  have hs : s.settleAdmission.settlePick.cell = s.cell := by rw [h2.rest, h1.rest]
  have h := s.settleAdmission.settlePick.pumpCell_cell
  rw [hs] at h
  rw [hc]
  exact h

/-- After the end of a command nothing is left undone (R33, R160, R184, R199). -/
theorem State.finish_settled (s : State) : s.finish.Settled := by
  refine ⟨⟨?_, ?_, State.pumpHandler_atRest _⟩, ?_⟩
  · rw [s.finish_rest]
  · rw [s.finish_rest]
  · have h := s.settleAdmission.settlePick.pumpCell_atRest
    have e := s.settleAdmission.settlePick.pumpCell.pumpHandler_rest
    unfold State.LineAtRest at h ⊢
    unfold State.finish
    rw [e]
    exact h

variable (s : State)

@[simp] theorem State.finish_now : s.finish.now = s.now := by rw [s.finish_rest]
@[simp] theorem State.finish_mode : s.finish.mode = s.mode := by rw [s.finish_rest]
@[simp] theorem State.finish_settings : s.finish.settings = s.settings := by rw [s.finish_rest]
@[simp] theorem State.finish_silence : s.finish.silence = s.silence := by rw [s.finish_rest]
@[simp] theorem State.finish_planHeads : s.finish.planHeads = s.planHeads := by rw [s.finish_rest]
@[simp] theorem State.finish_planSteps : s.finish.planSteps = s.planSteps := by rw [s.finish_rest]
@[simp] theorem State.finish_zones : s.finish.zones = s.zones := by rw [s.finish_rest]
@[simp] theorem State.finish_buses : s.finish.buses = s.buses := by rw [s.finish_rest]
@[simp] theorem State.finish_metricTable : s.finish.metricTable = s.metricTable := by rw [s.finish_rest]
@[simp] theorem State.finish_gradeTable : s.finish.gradeTable = s.gradeTable := by rw [s.finish_rest]
@[simp] theorem State.finish_binMap : s.finish.binMap = s.binMap := by rw [s.finish_rest]
@[simp] theorem State.finish_lanes : s.finish.lanes = s.lanes := by rw [s.finish_rest]
@[simp] theorem State.finish_offsets : s.finish.offsets = s.offsets := by rw [s.finish_rest]
@[simp] theorem State.finish_enabled : s.finish.dispatch.enabled = s.dispatch.enabled := by rw [s.finish_rest]
@[simp] theorem State.finish_stall : s.finish.dispatch.stall = s.dispatch.stall := by rw [s.finish_rest]
@[simp] theorem State.finish_manifest : s.finish.dispatch.manifest = s.dispatch.manifest := by rw [s.finish_rest]
@[simp] theorem State.finish_nextRecord : s.finish.dispatch.nextRecord = s.dispatch.nextRecord := by
  rw [s.finish_rest]
@[simp] theorem State.finish_pending : s.finish.pending = s.pending := by rw [s.finish_rest]
@[simp] theorem State.finish_admissionDue : s.finish.admissionDue = false := by rw [s.finish_rest]
@[simp] theorem State.finish_pickDue : s.finish.pickDue = false := by rw [s.finish_rest]

/-- The enables are EVENT_CONFIG's alone (R189). -/
@[simp] theorem State.finish_enables : s.finish.events.enables = s.events.enables := by
  obtain ⟨-, h1⟩ := s.settleAdmission_from
  obtain ⟨-, h2⟩ := s.settleAdmission.settlePick_from
  have hs : s.settleAdmission.events = s.events := by rw [h1.rest]
  unfold State.finish
  rw [State.pumpHandler_rest, State.pumpCell_rest]
  exact h2.events.enables.trans (congrArg EventPort.enables hs)

end Sys2Proof.Machine
end

