-- ==== Sys2Proof/Laws/Exchange.lean ====
section
/-! SUPPORT. What the exchanges of a diagnostic bus can do: they are work on the slot whose window is open. -/

namespace Sys2Proof.Machine

/-! ### The timing of a reply (R79 checks 1 and 2) -/

@[simp] theorem WindowStage.lapsed_sending (now : Nat) : WindowStage.lapsed now .sending = false := rfl

@[simp] theorem WindowStage.lapsed_deciding (now : Nat) : WindowStage.lapsed now .deciding = false := rfl

/-- The test of DRIVE_REPLY_RECEIVED is the one the statements name. -/
theorem WindowStage.lapsed_awaiting (now deadline wait lastAt : Nat) (got : List Byte) :
    (WindowStage.awaiting deadline wait got lastAt).lapsed now = false ↔ InTime now deadline wait lastAt got := by
  cases got <;> simp [WindowStage.lapsed, InTime]

variable (s : State) (i : SlotId)

theorem State.takeReport_onSlot (p : StateReport) : OnSlot i s (s.takeReport i p) := by
  unfold State.takeReport
  have h : OnSlot i s (if (s.driveRunning i && p.testCode == (s.slotStep i).testCode) = true then
      s.modRecord i (fun r => { r with counters := p.counters }) else s) := by
    split
    · exact (OnSlot.refl i s).ofRecord _
    · exact .refl i s
  simp only
  split
  · exact h.ofRecord _
  · exact h

theorem State.serveSnapshot_onSlot (p : StateReport) : OnSlot i s (s.serveSnapshot i p) := by
  unfold State.serveSnapshot; split
  · exact ((OnSlot.refl i s).ofRecord _).ofOffer _
  · exact .refl i s

theorem State.judgeReport_onSlot (p : StateReport) : OnSlot i s (s.judgeReport i p) := by
  unfold State.judgeReport; split
  · split
    · exact s.endStep_onSlot i _
    · exact s.endStep_onSlot i _
    · exact .refl i s
    · exact .refl i s
  · exact .refl i s

theorem State.routeReport_onSlot (p : StateReport) : OnSlot i s (s.routeReport i p) :=
  ((s.takeReport_onSlot i p).trans (State.serveSnapshot_onSlot _ i p)).trans (State.judgeReport_onSlot _ i p)

theorem State.route_onSlot (f : BusFrame) (v : ValidReply) : OnSlot i s (s.route i f v) := by
  unfold State.route
  split
  · split
    · exact s.routeReport_onSlot i _
    · exact .refl i s
  · simp only
    refine OnSlot.trans ?_ (State.messageAnswered_onSlot _ i _ _)
    split
    · split
      · exact (OnSlot.refl i s).ofRecord _
      · exact .refl i s
    · exact .refl i s
  · exact (OnSlot.refl i s).ofOffer _
  · exact (OnSlot.refl i s).ofOffer _
  · exact .refl i s

theorem State.linkHeard_onSlot : OnSlot i s (s.linkHeard i) := by
  unfold State.linkHeard
  simp only
  split
  · exact ((OnSlot.refl i s).ofSlot _).ofOffer _
  · exact (OnSlot.refl i s).ofSlot _

theorem State.dequeue_onSlot (f : BusFrame) : OnSlot i s (s.dequeue i f) := by
  unfold State.dequeue; split
  · exact .refl i s
  · exact (OnSlot.refl i s).ofSlotBus _

theorem State.queueContinue_onSlot (f : BusFrame) : OnSlot i s (s.queueContinue i f) := by
  unfold State.queueContinue; split
  · exact .refl i s
  · exact (OnSlot.refl i s).ofSlotBus _

theorem State.countMiss_onSlot : OnSlot i s (s.countMiss i) := (OnSlot.refl i s).ofRecord _

/-- The bay of the slot at a position of a bus is that bus. -/
theorem bayOf_slotAt (b : BayId) (p : Position) : bayOf (slotAt b p) = b := by
  ext; simp only [bayOf, slotAt]; omega

/-- Work on a bus is work on any slot of its bay. -/
theorem OnSlot.ofBusOf {i : SlotId} {s t : State} (h : OnSlot i s t) (b : BayId) (hb : bayOf i = b) (f : Bus → Bus) :
    OnSlot i s (t.modBus b f) := hb ▸ h.ofBus f

variable (b : BayId) (w : Window)

theorem State.continueWindow_onSlot : OnSlot (slotAt b w.position) s (s.continueWindow b w) := by
  unfold State.continueWindow
  simp only
  split
  · exact (OnSlot.refl _ s).ofBusOf b (bayOf_slotAt b _) _
  · exact (OnSlot.refl _ s).ofBusOf b (bayOf_slotAt b _) _

/-- A valid reply is work on the window's slot (R87, R88). -/
theorem State.replyTaken_onSlot (v : ValidReply) : OnSlot (slotAt b w.position) s (s.replyTaken b w v) := by
  have hb := bayOf_slotAt b w.position
  have h1 := ((OnSlot.refl (slotAt b w.position) s).ofBusOf b hb
    fun x => { x with window := some { w with stage := .deciding } }).trans (State.linkHeard_onSlot _ _)
  unfold State.replyTaken
  extract_lets i s1 s2 s3 s4
  have h3 : OnSlot i s s3 := by
    have h2 : OnSlot i s s2 := h1.trans (State.dequeue_onSlot s1 i w.frame)
    show OnSlot i s (if v.continues then s2.queueContinue i w.frame else s2)
    split
    · exact h2.trans (State.queueContinue_onSlot _ _ _)
    · exact h2
  have h4 : OnSlot i s s4 := h3.trans (State.route_onSlot s3 i w.frame v)
  clear_value s4
  split
  · exact h1.ofBusOf b hb _
  · split
    · exact h4
    · split
      · exact h4.trans (State.continueWindow_onSlot _ b w)
      · exact h4.ofBusOf b hb _

/-- What a miss does once the link is LOST is work on the slot (R92). -/
theorem OnSlot.ofLost {i : SlotId} {s t : State} (h : OnSlot i s t) (becomes : Bool) (e : Event) (l : List Event)
    (m : Option Message) :
    OnSlot i s
      (if becomes = true then ((if becomes = true then t.offer e else t).offerAll l).linkLostTo i m
        else match m with
          | some m => ((if becomes = true then t.offer e else t).offerAll l).messageDropped i m
          | none => (if becomes = true then t.offer e else t).offerAll l) := by
  cases becomes with
  | true => exact ((h.ofOffer e).trans (State.offerAll_onSlot _ _ _)).trans (State.linkLostTo_onSlot _ _ _)
  | false =>
    cases m with
    | some m => exact (h.trans (State.offerAll_onSlot _ _ _)).trans (State.messageDropped_onSlot _ _ _)
    | none => exact h.trans (State.offerAll_onSlot _ _ _)

/-- A miss is work on the window's slot (R90 to R92). -/
theorem State.miss_onSlot : OnSlot (slotAt b w.position) s (s.miss b w) := by
  have h1 := (s.countMiss_onSlot (slotAt b w.position)).ofBusOf b (bayOf_slotAt b w.position)
    fun x => { x with window := none }
  unfold State.miss
  extract_lets i s1 wasLost becomes gone s2 s3 s4 m
  split
  · exact (h1.ofSlot _).ofLost becomes _ _ m
  · exact h1

end Sys2Proof.Machine
end

