-- ==== Sys2Proof/Laws/InBay.lean ====
section
/-! SUPPORT. What the shared operations on a zone can do: they write that zone, the slots of its bay, its bus, the
admission and dispatch queues and the due marks, and they offer events; everything else they leave alone. -/

namespace Sys2Proof.Machine

/-- t comes from s by work on zone z and its bay alone. -/
structure InBay (z : BayId) (s t : State) : Prop where
  still : { t.still with zones := s.zones } = s.still
  events : s.events.OfferedTo t.events
  zones : ∀ z', z' ≠ z → t.zone z' = s.zone z'
  slots : ∀ j, bayOf j ≠ z → t.slot j = s.slot j
  buses : ∀ b, b ≠ z → t.bus b = s.bus b

namespace InBay

variable {z : BayId} {i : SlotId} {s t u : State}

theorem refl (z : BayId) (s : State) : InBay z s s :=
  ⟨rfl, .refl _, fun _ _ => rfl, fun _ _ => rfl, fun _ _ => rfl⟩

theorem trans (h : InBay z s t) (k : InBay z t u) : InBay z s u := by
  refine ⟨?_, h.events.trans k.events, fun z' hz => (k.zones z' hz).trans (h.zones z' hz),
    fun j hj => (k.slots j hj).trans (h.slots j hj), fun b hb => (k.buses b hb).trans (h.buses b hb)⟩
  have a := congrArg (fun x : Still => { x with zones := s.zones }) k.still
  exact a.trans h.still

/-- Work on one slot of the bay is work in the bay. -/
theorem ofOnSlot (h : InBay z s t) (k : OnSlot i t u) (hi : bayOf i = z) : InBay z s u := by
  refine h.trans ⟨?_, k.events, fun y _ => State.zone_congr k.zones y,
    fun j hj => k.slots j fun e => hj (e ▸ hi), fun b hb => k.buses b fun e => hb (e.trans hi)⟩
  rw [show u.still = t.still from k.still]
  rfl

theorem ofZone (h : InBay z s t) (f : Zone → Zone) : InBay z s (t.modZone z f) :=
  h.trans ⟨rfl, .refl _, fun _ hz => State.zone_modZone_ne _ _ _ _ hz.symm, fun _ _ => rfl, fun _ _ => rfl⟩

theorem ofOffer (h : InBay z s t) (e : Event) : InBay z s (t.offer e) :=
  h.trans ⟨by simp [State.still], ⟨[e], rfl⟩, fun _ _ => rfl, fun _ _ => rfl, fun _ _ => rfl⟩

theorem ofAdmission (h : InBay z s t) : InBay z s t.callAdmission :=
  h.trans ⟨rfl, .refl _, fun _ _ => rfl, fun _ _ => rfl, fun _ _ => rfl⟩

/-- Work on slots of the bay, one after the other. -/
theorem ofSlots (h : InBay z s t) (l : List SlotId) (f : SlotId → State → State) (hl : ∀ i ∈ l, bayOf i = z)
    (hf : ∀ i t, OnSlot i t (f i t)) : InBay z s (t.forSlots l f) := by
  unfold State.forSlots
  induction l generalizing t with
  | nil => exact h
  | cons i l ih =>
    exact ih (h.ofOnSlot (hf i t) (hl i (by simp))) (fun j hj => hl j (by simp [hj]))

end InBay

/-- The slots of a bay are of it. -/
theorem bayOf_baySlots {z : BayId} {i : SlotId} (h : i ∈ baySlots z) : bayOf i = z := by
  obtain ⟨p, -, rfl⟩ := List.mem_map.1 h
  exact bayOf_slotAt z p

variable (s : State) (z : BayId)

theorem State.changeZone_inBay (f : Zone → Zone) (cause : ZoneCause) : InBay z s (s.changeZone z f cause) :=
  ((InBay.refl z s).ofZone f).ofOffer _

theorem State.setDuties_inBay : InBay z s (s.setDuties z) := (InBay.refl z s).ofZone _

theorem State.publish_inBay : InBay z s (s.publish z) := by
  unfold State.publish
  have h := (InBay.refl z s).ofZone fun x => { x with report := x.formReport }
  simp only
  split
  · exact h.ofSlots _ _ (fun _ hi => bayOf_baySlots hi) fun i t => t.judgeGate_onSlot i
  · exact h

theorem State.settleZone_inBay : InBay z s (s.settleZone z) := (s.setDuties_inBay z).trans (State.publish_inBay _ z)

theorem State.moveZone_inBay (f : Zone → Zone) (cause : ZoneCause) : InBay z s (s.moveZone z f cause) :=
  (s.changeZone_inBay z f cause).trans (State.settleZone_inBay _ z)

theorem State.sensorLost_inBay : InBay z s (s.sensorLost z) := by
  unfold State.sensorLost
  split <;> first | exact s.moveZone_inBay z _ _ | exact .refl z s

theorem State.sensorBack_inBay : InBay z s (s.sensorBack z) := by
  unfold State.sensorBack
  split <;> first | exact s.moveZone_inBay z _ _ | exact .refl z s

theorem State.sensorDegraded_inBay (invalid : Fin 2) : InBay z s (s.sensorDegraded z invalid) := by
  unfold State.sensorDegraded
  split
  · exact .refl z s
  · exact ((InBay.refl z s).ofZone _).ofOffer _

theorem State.readSensors_inBay (r : ZoneReads) : InBay z s (s.readSensors z r) := by
  have h := (InBay.refl z s).ofZone fun x => x.read r
  unfold State.readSensors
  simp only
  split
  · exact h.trans (State.sensorLost_inBay _ z)
  · exact (h.trans (State.sensorBack_inBay _ z)).ofZone _
  · exact (h.trans (State.sensorBack_inBay _ z)).trans (State.sensorDegraded_inBay _ z _)
  · exact (h.trans (State.sensorBack_inBay _ z)).trans (State.sensorDegraded_inBay _ z _)

theorem State.trip_inBay : InBay z s (s.trip z) :=
  ((s.changeZone_inBay z _ _).ofSlots _ _ (fun _ hi => bayOf_baySlots hi)
    fun i t => t.tripSlot_onSlot i).ofAdmission.trans (State.publish_inBay _ z)

theorem State.checkCritical_inBay (r : ZoneReads) : InBay z s (s.checkCritical z r) := by
  unfold State.checkCritical
  simp only
  split
  · split
    · exact s.trip_inBay z
    · exact .refl z s
  · exact .refl z s

theorem State.advanceZone_inBay : InBay z s (s.advanceZone z) := by
  unfold State.advanceZone
  simp only
  split
  · split
    · exact s.moveZone_inBay z _ _
    · exact (InBay.refl z s).ofZone _
    · exact .refl z s
  · split
    · exact s.moveZone_inBay z _ _
    · exact (InBay.refl z s).ofZone _
    · exact .refl z s
  · split
    · split
      · exact s.moveZone_inBay z _ _
      · exact .refl z s
    · exact .refl z s
  · exact .refl z s
  · exact .refl z s
  · exact .refl z s

/-- A control period of a zone keeps to its bay (R53). -/
theorem State.controlPeriod_inBay (r : ZoneReads) : InBay z s (s.controlPeriod z r) :=
  (((s.readSensors_inBay z r).trans (State.checkCritical_inBay _ z r)).trans (State.advanceZone_inBay _ z)).trans
    (State.settleZone_inBay _ z)

theorem State.periodNow_inBay (r : ZoneReads) : InBay z s (s.periodNow z r) :=
  ((InBay.refl z s).ofZone _).trans (State.controlPeriod_inBay _ z r)

end Sys2Proof.Machine
end

