-- ==== Sys2Proof/Laws/Requests.lean ====
section
/-! SUPPORT. Taking a request (R182, R183): when the port takes it, what its reply is, and what a request that names a
slot, a zone or a lane does in and beyond its range; and what the handler's frames do (R199). -/

namespace Sys2Proof.Machine

variable {s : State} {q : Request} {rest : List Request} {kind : Byte}

/-- The port is ready and the head is of the kind: the request leaves the queue, acts or is MALFORMED, and its reply is
formed. -/
theorem State.takeRequest_head {takes : Byte → Bool} {fits : List Byte → Bool} {act : State → Request → Answer}
    (h : s.Heads kind q rest) (hk : takes kind = true) :
    s.takeRequest takes fits act =
      ((if fits q.body then act { s with cell := { s.cell with input := rest } } q
        else ({ s with cell := { s.cell with input := rest } } : State).refuse .malformed).reply q).finish := by
  obtain ⟨hr, hi, rfl⟩ := h
  simp [State.takeRequest, hr, hi, hk]

/-- The port is not ready, or no request waits: nothing happens. -/
theorem State.takeRequest_idle {takes : Byte → Bool} {fits : List Byte → Bool} {act : State → Request → Answer}
    (h : s.portReady = false ∨ s.cell.input = []) : s.takeRequest takes fits act = s := by
  rcases h with h | h
  · simp [State.takeRequest, h]
  · simp [State.takeRequest, h]

/-- A head of another kind is left where it is. -/
theorem State.takeRequest_other {takes : Byte → Bool} {fits : List Byte → Bool} {act : State → Request → Answer}
    (h : s.cell.input = q :: rest) (hk : takes q.kind = false) : s.takeRequest takes fits act = s := by
  unfold State.takeRequest
  rw [h]
  cases s.portReady <;> simp [hk]

/-- A request refused is answered with its status and changes nothing else (R183). -/
theorem State.refuse_reply (status : Status) :
    (({ s with cell := { s.cell with input := rest } } : State).refuse status).reply q = s.answered q rest status := rfl

/-- A request answered OK with a body, and nothing changed but what the answer's state holds. -/
theorem State.accept_reply (body : List Byte) (adjusted : Bool) :
    (({ s with cell := { s.cell with input := rest } } : State).accept body adjusted).reply q =
      s.answered q rest .ok body adjusted := rfl

/-! ### Operands -/

theorem State.withSlot_in (s : State) (b : Byte) (act : SlotId → Answer) (h : b.toNat < 24) :
    s.withSlot b act = act ⟨b.toNat, h⟩ := by simp [State.withSlot, h]

theorem State.withSlot_out (s : State) (b : Byte) (act : SlotId → Answer) (h : 24 ≤ b.toNat) :
    s.withSlot b act = s.refuse .range := by simp [State.withSlot, Nat.not_lt.2 h]

theorem State.withZone_in (s : State) (b : Byte) (act : BayId → Answer) (h : b.toNat < 4) :
    s.withZone b act = act ⟨b.toNat, h⟩ := by simp [State.withZone, h]

theorem State.withZone_out (s : State) (b : Byte) (act : BayId → Answer) (h : 4 ≤ b.toNat) :
    s.withZone b act = s.refuse .range := by simp [State.withZone, Nat.not_lt.2 h]

theorem State.withLane_in (s : State) (b : Byte) (act : LaneId → Answer) (h : b.toNat < 6) :
    s.withLane b act = act ⟨b.toNat, h⟩ := by simp [State.withLane, h]

theorem State.withLane_out (s : State) (b : Byte) (act : LaneId → Answer) (h : 6 ≤ b.toNat) :
    s.withLane b act = s.refuse .range := by simp [State.withLane, Nat.not_lt.2 h]

/-! ### Frames of the handler (R199) -/

/-- A valid frame of the handler is malformed and does nothing, or acts as one of the eight messages. -/
theorem State.handlerMessage_cases (s : State) (q : Request) :
    s.handlerMessage q = s ∨
      (∃ n, s.handlerMessage q = s.seatRequestMessage q.tag n ∨ s.handlerMessage q = s.seatDoneMessage q.tag n ∨
        s.handlerMessage q = s.takenMessage q.tag n ∨ s.handlerMessage q = s.doneMessage q.tag n ∨
        s.handlerMessage q = s.toteInMessage q.tag n ∨ s.handlerMessage q = s.toteOutMessage q.tag n) ∨
      ∃ n reason, s.handlerMessage q = s.refusedMessage q.tag n reason ∨
        s.handlerMessage q = s.failedMessage q.tag n reason := by
  unfold State.handlerMessage
  split
  · exact .inr (.inl ⟨_, .inl rfl⟩)
  · exact .inr (.inl ⟨_, .inr (.inl rfl)⟩)
  · exact .inr (.inl ⟨_, .inr (.inr (.inl rfl))⟩)
  · exact .inr (.inr ⟨_, _, .inl rfl⟩)
  · exact .inr (.inl ⟨_, .inr (.inr (.inr (.inl rfl)))⟩)
  · exact .inr (.inr ⟨_, _, .inr rfl⟩)
  · exact .inr (.inl ⟨_, .inr (.inr (.inr (.inr (.inl rfl))))⟩)
  · exact .inr (.inl ⟨_, .inr (.inr (.inr (.inr (.inr rfl))))⟩)
  · exact .inl rfl

/-- A byte that completes no frame goes into the receiver alone. -/
theorem State.handlerByte_none {b : Byte} (h : (s.handler.rx.feed s.now b).2 = none) :
    s.handlerByte b = { s with handler := { s.handler with rx := (s.handler.rx.feed s.now b).1 } } := by
  simp [State.handlerByte, h]

/-- A byte that completes a frame: the receiver takes it, and the frame acts. -/
theorem State.handlerByte_some {b : Byte} (h : (s.handler.rx.feed s.now b).2 = some q) :
    s.handlerByte b =
      ({ s with handler := { s.handler with rx := (s.handler.rx.feed s.now b).1 } } : State).handlerMessage q := by
  simp [State.handlerByte, h]

end Sys2Proof.Machine
end

