-- ==== Sys2Proof/Tests/Slice0.lean ====
section
/-! SUPPORT. Tests on fixed values. Expected values come from the manual: its worked cases, its check values and its
tables. The `witness_` theorems show concrete states and operands that meet the hypotheses of the statements. -/

open Sys2Proof Sys2Proof.Machine

namespace Sys2Proof.Tests

-- One theorem at a time: elaborated together, these wait on one another and take a thread each.
set_option Elab.async false

/-! ### Small states -/

/-- The state a command answers. -/
def after (c : Instr) (s : State) : State :=
  match exec c s with
  | .next t => t
  | .fault _ => s
  | .refused _ => s

/-- The part with one request waiting. -/
def asked (kind : Byte) (body : List Byte) (s : State := .reset) : State :=
  { s with cell := { s.cell with input := [{ kind, tag := 7, body }] } }

/-- The request that waits. -/
def theRequest (kind : Byte) (body : List Byte) : Request := { kind, tag := 7, body }

/-- A state with slot i replaced. -/
def put (i : SlotId) (x : Slot) (s : State := .reset) : State := { s with slots := s.slotsWith i x }

/-- A slot in a life state outside a run. -/
def resting (life : LifeState) (presence : Presence := .present) : Slot :=
  { Slot.reset with record := .fresh life presence }

/-- A slot graded for a bin, in a life state. -/
def graded (life : LifeState) (bin : BinId) : Slot :=
  let x := resting life .absent
  { x with record := { x.record with grade := some { bin, score := 2180, reason := .scored } } }

/-- A slot ACTIVE in ON, at a step phase with a timer. -/
def running (phase : StepPhase) (timer : StepTimer := .none) (cycle : Nat × Nat := (0, 0)) : Slot :=
  { Slot.reset with
    record := { SlotRecord.fresh .active .present with
      plan := some 0, priority := some 1, powerPhase := some .on, reserved := 8, powerOnAt := some 0
      position := some { index := 0, phase, timer, cycleNumber := cycle.1, cycleCount := cycle.2 } }
    power := { PowerContext.idle with
      rails := true, amounts := some { surge := 25, running := 8 }, sampleDue := some 10 }
    run := { RunContext.idle with stage := .steps } }

/-- A slot that spins up. -/
def spinning (kind : SpinKind) : Slot :=
  let x := running .cycleOn .none (1, 2)
  { x with
    record := { x.record with
      powerPhase := some .spinup, reserved := 25, position := if kind = .cycle then x.record.position else none }
    power := { x.power with spinup := some { kind, deadline := 20000, startLevel := false, fallNoted := false } }
    run := { x.run with stage := if kind = .cycle then .steps else .powerWait } }

/-- A slot that parks, with its spin-down wait running. -/
def parking : Slot :=
  { Slot.reset with
    record := { SlotRecord.fresh .parking .present with powerPhase := some .off, powerOffAt := some 0 }
    run := { RunContext.idle with stage := .spinDown, spinDown := some 20000 } }

/-- Plan 0 has one step of a kind. -/
def planned (kind : StepKind) (s : State) : State :=
  { s with
    planHeads := s.planHeads.set 0 { PlanHead.reset with stepCount := 1 }
    planSteps := s.planSteps.set 0 { PlanStep.reset with kind, cycleCount := 2 } }

/-- Zone 0 in a state, at a position of a profile of one segment. -/
def zoned (state : ZoneState) (position : Option ZonePosition) (s : State := .reset) : State :=
  { s with
    zones := s.zones.set 0
      { Zone.reset with
        state, position, temperature := some 100, active := { Profile.reset with segmentCount := 1 } } }

/-- A position in segment 0, loop 1. -/
def atSegment (holdLeft : Nat) : ZonePosition := { segment := 0, loop := 1, acc := 4800, holdLeft }

/-- A transfer in flight with its timer. -/
def carrying (transfer : Transfer) (s : State) : State :=
  { s with handler := { s.handler with transfer, timer := some 500 } }

/-- Slot 0 stands in the dispatch queue. -/
def queued (offered : Bool) (s : State) : State :=
  { s with dispatch := { s.dispatch with queue := [{ slot := 0, bin := 8, offered }] } }

/-- Bus 0 has a window open for slot 0. -/
def window (frame : BusFrame) (stage : WindowStage) (s : State) : State :=
  { s with buses := s.buses.set 0 { window := some { position := 0, count := 1, frame, stage, removed := false }, pointer := 0 } }

/-- A window that awaits its reply. -/
def awaiting (bytes : List Byte := []) : WindowStage := .awaiting 20 20 bytes 0

/-- Both sensors answer q raw. -/
def reads (q : Int) : ZoneReads := { sensor0 := some q, sensor1 := some q }

/-! ### Soundness, checked -/

/-- What `State.PowerSound` says, as a check. -/
def powerCheck (s : State) : Bool :=
  decide (s.reservedSum ≤ s.settings.budget) &&
  (List.finRange 8).all (fun p => decide ((s.planHead p).running ≤ (s.planHead p).surge)) &&
  decide (s.waiting.map AdmissionEntry.slot).Nodup &&
  s.waiting.all (fun e => (s.power e.slot).amounts.all fun a => decide (a.running ≤ e.surge)) &&
  ((List.finRange 24).all fun i => (s.power i).amounts.all fun a => decide (a.running ≤ a.surge)) &&
  (List.finRange 24).all fun i =>
    decide ((s.record i).powerPhase.isSome = true ↔ (s.record i).life = .active ∨ (s.record i).life = .parking) &&
    decide ((s.power i).rails = true ↔ s.powered i = true) &&
    decide ((s.power i).rails = false →
      (s.record i).reserved = 0 ∧ (s.power i).spinup = none ∧ (s.power i).sampleDue = none) &&
    decide ((s.record i).powerPhase = some .queued ↔ i ∈ s.waiting.map AdmissionEntry.slot) &&
    ((s.power i).spinup.isNone ||
      (decide ((s.record i).life = .active ∧ (s.record i).powerPhase = some .spinup) &&
        (s.power i).amounts.all fun a => decide (a.running ≤ (s.record i).reserved)))

/-- The check is right. -/
theorem powerSound_of_check {s : State} (h : powerCheck s = true) : s.PowerSound := by
  simp only [powerCheck, Bool.and_eq_true, decide_eq_true_eq, List.all_eq_true, List.mem_finRange, true_implies,
    Option.all_eq_true, Bool.or_eq_true, Option.isNone_iff_eq_none] at h
  obtain ⟨⟨⟨⟨⟨h1, h2⟩, h3⟩, h4⟩, h5⟩, h6⟩ := h
  refine ⟨h1, h2, h3, h4, h5, fun i => ?_⟩
  obtain ⟨⟨⟨⟨a, b⟩, c⟩, d⟩, e⟩ := h6 i
  refine ⟨a, b, c, d, fun hne => ?_⟩
  rcases e with e | e
  · exact absurd e hne
  · exact ⟨e.1.1, e.1.2, e.2⟩

/-- What `State.RunsSound` and `State.TransfersSound` say, as a check. -/
def runsCheck (s : State) : Bool := decide (
  (∀ i : SlotId,
    ((s.run i).stage = .powerWait ∨ (s.run i).stage = .identify ∨ (s.run i).stage = .steps ↔
      (s.record i).life = .active) ∧
    ((s.run i).stage = .parkWait ∨ (s.run i).stage = .spinDown ↔ (s.record i).life = .parking) ∧
    ((s.record i).powerPhase = some .queued →
      (s.run i).stage = .powerWait ∨ s.inPhase i .cycleAdmit = true) ∧
    (s.inPhase i .cycleOff = true → s.stepDeadline i ≠ none → (s.record i).powerPhase = some .off) ∧
    ((s.run i).stage = .spinDown → (s.record i).powerPhase = some .off) ∧
    ((s.run i).spinDown ≠ none → (s.run i).stage = .spinDown)) ∧
  (∀ i : SlotId,
    ((s.record i).life = .unloading ↔
      s.handler.transfer.slot = some i ∧
        (s.handler.transfer.state = .carrying ∨ s.handler.transfer.state = .awaitingConfirm)) ∧
    ((s.record i).life = .reserved ↔ s.handler.transfer.slot = some i ∧ s.handler.transfer.state = .seating) ∧
    ((s.record i).life = .dispatch ↔ i ∈ s.dispatch.queue.map DispatchEntry.slot)) ∧
  (s.dispatch.queue.map DispatchEntry.slot).Nodup ∧
  (s.handler.transfer.state = .offered →
    ∃ e ∈ s.dispatch.queue, s.handler.transfer.slot = some e.slot) ∧
  ∀ e ∈ s.dispatch.queue,
    (e.offered = true ↔ s.handler.transfer.slot = some e.slot ∧ s.handler.transfer.state = .offered))

/-- A state that passes both checks is sound. -/
theorem sound_of_checks {s : State} (h : (powerCheck s && runsCheck s) = true) : s.Sound := by
  simp only [Bool.and_eq_true, runsCheck, decide_eq_true_eq] at h
  exact ⟨powerSound_of_check h.1, h.2.1, h.2.2⟩

/-! ### States that meet the hypotheses of the statements -/

/-- A run in progress, a request waiting and every line free: it meets every condition the steps keep. -/
def lively : State := asked 0x01 [1, 2] (put 0 (running .running (.running 600)) (planned .dwell State.reset))

theorem witness_StepRunsTheFrontCommand :
    ({ lively with pending := [.ping, .restart] } : State).pending = .ping :: [.restart] ∧ lively.pending = [] := by decide

theorem witness_CommandsAnswerAndTimeRunsOn : exec .ping lively = .next (after .ping lively) := rfl

theorem witness_ConfigurationChangesByItsRequestsAlone :
    exec (.windowGrant 0) lively = .next (after (.windowGrant 0) lively) := rfl

theorem witness_ModesChangeByTheirOwnCommandsAlone :
    (after .silenceExpired lively).mode = .safe ∧ lively.mode = .run ∧
      (after .shelfResume (asked 0x09 [] (after .silenceExpired lively))).mode = .run ∧
      ({ lively with silence := { lively.silence with mode := .locked }, pending := [.ping] } : State).silence.mode =
        .locked := by decide +kernel

theorem witness_HeatStaysWithdrawn : (after .silenceExpired lively).HeatWithdrawn := by
  unfold State.HeatWithdrawn; decide +kernel

/-- A slot in ON with a frame queued. -/
def messaging (f : QueuedFrame) : Slot := { running .running with bus := { queue := [f], poll := .running 0 } }

theorem witness_QueuesStayBounded :
    (window (.queued (.raw 7 [] 1)) awaiting (put 0 (messaging (.raw 7 [] 1)))).QueuesBounded := by
  unfold State.QueuesBounded BusContext.Bounded; decide

theorem witness_LanesStaySound : (carrying (.pick .carrying 0 1 0) lively).LanesSound := by
  unfold State.LanesSound; decide

theorem witness_ZonesStaySound : (zoned .hold (some (atSegment 3))).ZonesSound := by
  intro z; match z with
  | 0 => exact ⟨by decide, by rintro _ ⟨⟩; decide, by decide, by decide, by rintro _ ⟨⟩, by decide, by decide⟩
  | 1 | 2 | 3 => exact ⟨by decide, by rintro _ ⟨⟩, by decide, by decide, by rintro _ ⟨⟩, by decide, by decide⟩

theorem witness_PowerAndRunsStaySound : lively.Sound := sound_of_checks (by decide)

theorem witness_TransfersStaySound :
    (queued true (carrying (.pick .offered 0 1 0) (put 0 (resting .dispatch)))).Sound ∧
      (carrying (.seat 0 0 true) (put 0 (resting .reserved .absent))).Sound :=
  ⟨sound_of_checks (by decide), sound_of_checks (by decide)⟩

theorem witness_StepsLeaveNothingUndone : lively.Settled := by
  unfold State.Settled State.AtRest State.LineAtRest; decide

theorem witness_EventsKeepToTheirSlotOrBay :
    lively.slotOf (.dwellExpiry 0) = some 0 ∧ (window .poll (awaiting) lively).slotOf (.replyWaitExpiry 0) = some 0 := by
  decide

theorem witness_FramesComeThroughTheReceiverWhole :
    ([1, 2] : List Byte).length ≤ 250 ∧ (0 : BitVec 16) ≠ crc16 (envelopeBytes 0x01 0 [1, 2]) ∧ 253 < 65536 := by decide +kernel

/-- A valid STATE_REPORT body: RUNNING, test code 7, 50 %, 30 degrees, 1000 kiloblocks, no retries, no defects. -/
def reportBody : List Byte := [1, 7, 50, 30, 0, 0, 3, 232, 0, 0, 0, 0, 0]

theorem witness_DriveRepliesComeThrough :
    (BusFrame.accepts .poll).contains 0x42 = true ∧ layoutGood (BusFrame.isRaw .poll) 0x42 reportBody = true ∧
      reportBody.length ≤ 60 := by decide

theorem witness_TableEntriesReadBackAsWritten :
    ([0, 0, 2, 0, 20] : List Byte).length = Table.writeSize .metric ∧
      Table.refuses .metric [0, 0, 2, 0, 20] = false ∧
      (State.reset.storeEntry .metric 3 [0, 0, 2, 0, 20]).2 = false ∧ (∀ z, (State.reset.zone z).Sound) := by
  refine ⟨by decide, by decide, by decide, fun z => ?_⟩
  match z with
  | 0 | 1 | 2 | 3 => exact ⟨by decide, by rintro _ ⟨⟩, by decide, by decide, by rintro _ ⟨⟩, by decide, by decide⟩

theorem witness_FramesAndGapsOnTheLinks :
    lively.cell.rx = .hunting ∧ lively.handler.rx = .hunting ∧
      (after (.cellFrameReceived ((frameBytes 0x01 7 [1]).take 3)) lively).cell.rx =
        .assembling ((frameBytes 0x01 7 [1]).take 3).tail 0 ∧
      (after (.handlerFrameMalformed ((frameBytes 0x46 7 [1]).take 3)) lively).handler.rx =
        .assembling ((frameBytes 0x46 7 [1]).take 3).tail 0 ∧
      frameBytes 0x01 7 [1] = (frameBytes 0x01 7 [1]).take 3 ++ (frameBytes 0x01 7 [1]).drop 3 ∧
      (frameBytes 0x01 7 [1]).take 3 ≠ [] ∧ (frameBytes 0x01 7 [1]).drop 3 ≠ [] ∧ lively.now ≤ 0 + 5 ∧
      0 + 5 < ({ lively with now := 6 } : State).now := by decide +kernel

/-- A reply is being sent, and a refusal and an event wait. -/
def sending (restart : RestartStage) : State :=
  { State.reset with
    cell := { CellPort.reset with
      line := some (.reply { kind := 1, tag := 0, status := .ok, adjusted := false, body := [] }), refusals := [(1, 2)]
      restart }
    events := { EventPort.reset with queue := [(0, .supervision .resumed)] } }

theorem witness_TheLineSendsInOrderUntilRestart :
    (sending .none).AtRest ∧ (sending .called).AtRest ∧ (sending .called).cell.restart = .called ∧
      (sending .due).AtRest ∧ (OutFrame.event 0 (.supervision .resumed)).isReply = false ∧
      (asked 0x0A []).Heads 0x0A (theRequest 0x0A []) [] := by
  unfold State.AtRest State.Heads; decide

theorem witness_RequestsWaitTheirTurn :
    isRequest .ping = true ∧ (sending .none).portReady = false ∧ State.reset.cell.input = [] ∧
      (asked 0x02 []).cell.input = [theRequest 0x02 []] ∧ takesKind .ping 0x02 = false := by decide

theorem witness_UnknownAndMisfittingRequestsAreRefused :
    (asked 0x60 []).Heads 0x60 (theRequest 0x60 []) [] ∧ requestKinds.contains 0x60 = false ∧
      (asked 0x10 [1]).Heads 0x10 (theRequest 0x10 [1]) [] ∧ fixedLength 0x10 = some 3 ∧
      (asked 0x01 (List.replicate 33 0)).Heads 0x01 (theRequest 0x01 (List.replicate 33 0)) [] ∧
      (asked 0x03 [0, 0, 1]).Heads 0x03 (theRequest 0x03 [0, 0, 1]) [] ∧ settingsFit [0, 0, 1] = false := by
  unfold State.Heads; decide

theorem witness_RefusedRequestsChangeNothing :
    (asked 0x10 [0, 8, 0]).portReady = true ∧
      (after .slotStart (asked 0x10 [0, 8, 0])).cell.line =
        some (.reply { kind := 0x10, tag := 7, status := .range, adjusted := false, body := [] }) := by decide

theorem witness_QueriesAnswerAndChangeNothingElse :
    (asked 0x01 [5]).Heads 0x01 (theRequest 0x01 [5]) [] ∧ (asked 0x02 []).Heads 0x02 (theRequest 0x02 []) [] ∧
      (asked 0x13 [23]).Heads 0x13 (theRequest 0x13 [23]) [] ∧
      (asked 0x05 [9, 47, 1]).Heads 0x05 (theRequest 0x05 [9, 47, 1]) [] ∧ tableOf 9 ≠ none ∧ tableOf 10 = none := by
  unfold State.Heads; decide

theorem witness_TableWritesAreCheckedThenStored :
    let body : List Byte := [0, 0, 1, 1, 25, 8, 0]
    let s := asked 0x04 body (put 0 (running .running) (planned .dwell .reset))
    s.Heads 0x04 (theRequest 0x04 body) [] ∧ tableOf 0 = some .planHead ∧ Table.planOf .planHead 0 = some 0 ∧
      (s.record 0).life = .active ∧ (s.record 0).plan = some 0 ∧
      (∀ l ∈ chunks (Table.writeSize .planHead) 1 [1, 25, 8, 0], Table.refuses .planHead l = false) ∧
      (asked 0x04 [0]).Heads 0x04 (theRequest 0x04 [0]) [] := by
  unfold State.Heads; decide

/-- The entries the clauses of the tables speak of: at the ends of their ranges, staged and made to the active profile. -/
theorem witness_TableWritesAreCheckedThenStored_entries :
    (∀ n ∈ ([16, 17] : List Byte), Table.refuses .planHead [n, 0, 255, 1] = decide (n = 17)) ∧
      (∀ n ∈ ([12, 13] : List Byte), Table.refuses .profileHead [n, 0] = decide (n = 13)) ∧
      Table.refuses .grade [1, 0, 0, 64] = true ∧ Table.refuses .binMap [6] = false ∧ Table.refuses .binMap [7] = true ∧
      ([16, 0, 255, 1] : List Byte).length = Table.writeSize .planHead ∧
      ((zoned .hold (some (atSegment 1))).zone 0).position ≠ none ∧ ((zoned .off none).zone 0).position = none := by
  decide

theorem witness_ShelfConfigIsCheckedThenStored :
    (asked 0x03 [0, 0, 4, 1, 44]).Heads 0x03 (theRequest 0x03 [0, 0, 4, 1, 44]) [] ∧ settingsFit [0, 0, 4, 1, 44] = true := by
  unfold State.Heads; decide

theorem witness_EventAndSilenceConfigStore :
    EventPort.reset.takes (.supervision .resumed) = false ∧
      { EventPort.reset with enables := { Enables.clear with supervision := true } }.takes (.supervision .resumed) = true ∧
    (asked 0x06 (List.replicate 9 1)).Heads 0x06 (theRequest 0x06 (List.replicate 9 1)) [] ∧
      (asked 0x07 [1, 2, 88, 1]).Heads 0x07 (theRequest 0x07 [1, 2, 88, 1]) [] := by
  unfold State.Heads; decide

theorem witness_SafeIsEnteredAtOnce :
    (asked 0x08 []).Heads 0x08 (theRequest 0x08 []) [] ∧ State.reset.silence.timer = some 30000 ∧
      (after .silenceExpired State.reset).silence.timer = none := by
  unfold State.Heads; decide +kernel

/-- Slot 0 is ACTIVE in ON with its link LOST. -/
def lost : Slot :=
  let x := running .running
  { x with record := { x.record with link := .lost, misses := 3 } }

/-- Slot 0 waits for its gate, or between steps, in SAFE, and is asked to resume. -/
def resuming (phase : StepPhase) (kind : StepKind := .dwell) (gate : Gate := .none) (x : Slot := running phase (.frozen 500)) :
    State :=
  let s := planned kind { State.reset with mode := .safe }
  asked 0x09 [] (put 0 x { s with planSteps := s.planSteps.set 0 { PlanStep.reset with kind, gate } })

theorem witness_ShelfResumeReturnsToRun :
    (resuming .waitGate).Heads 0x09 (theRequest 0x09 []) [] ∧ (resuming .waitGate).mode = .safe ∧
      (resuming .waitGate).inPhase 0 .waitGate = true ∧ ((resuming .waitGate).slotReport 0).meets .hold = false ∧
      (resuming .between).inPhase 0 .between = true ∧ ((resuming .between).slotStep 0).gate = .none ∧
      ((resuming .between).slotStep 0).kind = .dwell ∧ (resuming .between).NotWaiting 1 ∧
      ((resuming .between .drive .hold).slotReport 0).state = .off ∧
      ((resuming .between .drive .hold).slotStep 0).gate = .hold ∧
      ({ resuming .between .drive .hold with
          zones := State.reset.zones.set 0 { Zone.reset with report := { Zone.reset.report with state := .ramp } } } :
        State).slotReport 0 = { Zone.reset.report with state := .ramp } ∧
      ((resuming .between .cycle).slotStep 0).kind = .cycle ∧ ((resuming .between .drive).slotStep 0).kind = .drive ∧
      ((resuming .between .drive).run 0).outstanding = none ∧
      ((resuming .between .drive .none
        { running .between with run := { RunContext.idle with stage := .steps, outstanding := some .stopTest } }).run
          0).outstanding ≠ none ∧
      ((resuming .between .drive .none lost).record 0).link = .lost ∧
      (asked 0x09 []).Heads 0x09 (theRequest 0x09 []) [] := by
  unfold State.Heads State.NotWaiting; decide

/-- A step that begins hands its message over, while a CONTINUE, or another message, in the reserved place is in flight. -/
theorem witness_ShelfResumeReturnsToRun_displaced :
    ∀ f ∈ [QueuedFrame.cont .poll, .message .stopTest], ∀ kind ∈ [StepKind.drive, .cycle],
      let s := resuming .between kind .none { running .between with bus := { queue := [f], poll := .running 0 } }
      let t := { window (.queued f) awaiting s with planHeads := s.planHeads.set 0 { PlanHead.reset with parkBeforeCycle := true } }
      t.Heads 0x09 (theRequest 0x09 []) [] ∧ t.mode = .safe ∧ t.inPhase 0 .between = true ∧ (t.slotStep 0).gate = .none ∧
        (t.slotStep 0).kind = kind ∧ (t.slotHead 0).parkBeforeCycle = true ∧ (t.record 0).link = .ok ∧
        (t.run 0).outstanding = none ∧ OneReserved (t.slotBus 0).queue ∧ t.slotWindow 0 = (t.bus 0).window ∧
        (t.slotWindow 0).isSome = true := by
  unfold State.Heads OneReserved; decide

theorem witness_SlotStartIsCheckedThenStarts :
    let s := asked 0x10 [0, 0, 3] (put 0 (resting .seated) (planned .dwell .reset))
    s.Heads 0x10 (theRequest 0x10 [0, 0, 3]) [] ∧ (s.record 0).life = .seated ∧ (s.planHead 0).stepCount ≠ 0 := by
  unfold State.Heads; decide

theorem witness_SlotAbortOutsideARunActs :
    (∀ life ∈ [LifeState.empty, .reserved, .unloading, .held, .faulted, .seated, .parking, .dispatch],
      ∀ d ∈ ([0, 1] : List Byte),
        let s := asked 0x11 [0, d] (put 0 (resting life))
        s.Heads 0x11 (theRequest 0x11 [0, d]) [] ∧ (s.record 0).life = life ∧ s.isOffered 0 = false) ∧
      (queued true (put 0 (resting .dispatch))).isOffered 0 = true ∧
      (asked 0x11 [24, 0]).Heads 0x11 (theRequest 0x11 [24, 0]) [] ∧ ((resting .held).record).powerOffAt = none := by
  unfold State.Heads; decide

/-- Slot 0 is ACTIVE and QUEUED, in the admission queue. -/
def waitingForPower : State :=
  let x := running .running
  { put 0 { x with
      record := { x.record with powerPhase := some .queued, reserved := 0, position := none }
      power := { PowerContext.idle with amounts := x.power.amounts }
      run := { x.run with stage := .powerWait } } with
    admission := (Vector.replicate 4 []).set 1 [{ slot := 0, priority := 1, surge := 25, kind := .initial }] }

theorem witness_SlotAbortOfARun :
    (∀ s ∈ [waitingForPower, put 0 (running .running), put 0 lost],
      (asked 0x11 [0, 1] s).Sound ∧ (asked 0x11 [0, 1] s).Heads 0x11 (theRequest 0x11 [0, 1]) [] ∧
        ((asked 0x11 [0, 1] s).record 0).life = .active) ∧
      dispositionOf 1 = some .reject ∧ (waitingForPower.record 0).powerPhase = some .queued ∧
      waitingForPower.destination binReject = .hold ∧
      ({ waitingForPower with binMap := Vector.replicate 10 (.lane 0) } : State).destination binReject ≠ .hold := by
  refine ⟨fun s hs => ⟨sound_of_checks ?_, ?_, ?_⟩, by decide, by decide, by decide, by decide⟩
  · revert s; decide
  · unfold State.Heads; revert s; decide
  · revert s; decide

/-- A CYCLE step in its off time, the rails taken off at 0 ms. -/
def cycledOff : Slot :=
  let x := running .cycleOff (.running 900) (1, 2)
  { x with
    record := { x.record with powerPhase := some .off, reserved := 0, powerOffAt := some 0 }
    power := { x.power with rails := false, sampleDue := none } }

/-- A run with its rails off: the spin-down wait still to run, run out, and never begun. -/
theorem witness_SlotAbortOfARun_off :
    (∀ s ∈ [put 0 cycledOff, { put 0 cycledOff with now := 60000 },
        put 0 { cycledOff with record := { cycledOff.record with powerOffAt := none } }],
      (asked 0x11 [0, 0] s).Sound ∧ s.powered 0 = false ∧ (s.record 0).powerPhase ≠ some .queued ∧
        (s.record 0).powerPhase ≠ some .on) ∧
      ((put 0 cycledOff).record 0).powerOffAt = some 0 ∧ 0 < 0 + State.reset.settings.spinDownWait * 1000 ∧
      0 + State.reset.settings.spinDownWait * 1000 ≤ 60000 ∧ dispositionOf 0 = some .hold := by
  refine ⟨fun s hs => ⟨sound_of_checks ?_, ?_, ?_, ?_⟩, by decide, by decide, by decide, by decide⟩ <;> revert s <;> decide

theorem witness_SlotRestartAndSnapshotAct :
    let held := asked 0x12 [0] (put 0 (resting .held) { State.reset with settings := { Settings.reset with autostart := some 0 } })
    held.Heads 0x12 (theRequest 0x12 [0]) [] ∧ (held.record 0).life = .held ∧ held.settings.autostart = some 0 ∧
      (asked 0x14 [0] lively).Heads 0x14 (theRequest 0x14 [0]) [] ∧ (lively.record 0).life = .active := by
  unfold State.Heads; decide

theorem witness_DiagSendQueuesARawFrame :
    (asked 0x15 [0, 7, 1] lively).Heads 0x15 (theRequest 0x15 [0, 7, 1]) [] ∧ lively.powered 0 = true ∧
      (asked 0x15 [0]).Heads 0x15 (theRequest 0x15 [0]) [] ∧ (asked 0x15 [24]).Heads 0x15 (theRequest 0x15 [24]) [] := by
  unfold State.Heads; decide

theorem witness_ZoneRequestsChangeTheZone :
    (∀ x ∈ [ZoneState.off, .cool, .ramp, .hold, .sensorFault, .shutdown], ∀ k ∈ ([0x20, 0x21, 0x22] : List Byte),
      (asked k [0] (zoned x none)).Heads k (theRequest k [0]) [] ∧ ((zoned x none).zone 0).state = x ∧
        ((zoned x none).zone 0).active.segmentCount ≠ 0 ∧ ((zoned x none).zone 0).temperature = some 100) ∧
      (asked 0x20 [4]).Heads 0x20 (theRequest 0x20 [4]) [] := by
  unfold State.Heads; decide

theorem witness_DispatchRequestsEnableAndWithdraw :
    (asked 0x28 [1]).Heads 0x28 (theRequest 0x28 [1]) [] ∧ State.reset.dispatch.enabled = false ∧
      (asked 0x29 [0] (queued false (put 0 (resting .dispatch)))).Heads 0x29 (theRequest 0x29 [0]) [] ∧
      exec (.powerOnReset (Vector.replicate 4 (reads 80))) lively =
        .next (after (.powerOnReset (Vector.replicate 4 (reads 80))) lively) := by
  unfold State.Heads; exact ⟨by decide, by decide, by decide, rfl⟩

theorem witness_LanesOpenCloseAndTakeCapacity :
    (asked 0x2B [5]).Heads 0x2B (theRequest 0x2B [5]) [] ∧ (asked 0x2A [6]).Heads 0x2A (theRequest 0x2A [6]) [] := by
  unfold State.Heads; decide

theorem witness_ManifestTakeRemovesTheOldest : (asked 0x2C [48]).Heads 0x2C (theRequest 0x2C [48]) [] := by
  unfold State.Heads; decide

theorem witness_StallsAndCarriesAreSettledByTheHost :
    (asked 0x30 []).Heads 0x30 (theRequest 0x30 []) [] ∧
      let s := asked 0x31 [0] (carrying (.pick .awaitingConfirm 0 1 0) (put 0 (graded .unloading 2)))
      s.Heads 0x31 (theRequest 0x31 [0]) [] ∧ s.handler.transfer = .pick .awaitingConfirm 0 1 0 ∧
      (s.record 0).life = .unloading ∧ (s.record 0).grade ≠ none := by
  unfold State.Heads; decide

theorem witness_PicksFollowTheHandlersMessages :
    (carrying (.pick .offered 0 1 0) (put 0 (resting .dispatch))).handler.transfer = .pick .offered 0 1 0 ∧
      ((put 0 (resting .dispatch)).record 0).life = .dispatch ∧
      (carrying (.pick .carrying 0 1 0) (put 0 (resting .unloading))).handler.transfer.state = .carrying ∧
      ((put 0 (graded .unloading 2)).record 0).life = .unloading ∧
      ((put 0 (graded .unloading 2)).record 0).grade ≠ none ∧ State.reset.handler.transfer.state = .idle := by decide

theorem witness_SeatsFollowTheHandlersMessages :
    (carrying (.seat 0 0 false) .reset).handler.transfer = .seat 0 0 false ∧
      (carrying (.pick .offered 0 1 0) .reset).handler.transfer.kind = some .pick ∧
      ({ State.reset with handler := { HandlerPort.reset with closedSeat := some 0 } } : State).handler.closedSeat =
        some 0 := by decide

theorem witness_TransferTimersAndTheHandlerLine :
    (handlerLength 0x53 = none ∧ handlerLength 0x46 = some 1 ∧ ([1, 2] : List Byte).length ≠ 1) ∧
      (carrying (.pick .offered 0 1 0) .reset).handler.timer = some 500 ∧ State.reset.handler.timer = none ∧
      ((put 0 (resting .reserved .absent)).record 0).life = .reserved ∧ State.reset.handler.rx = .hunting ∧
      lively.LineAtRest := by
  unfold State.LineAtRest; decide

/-- A slot whose switch has a pending change. -/
def changing (raw : Bool) (x : Slot) : Slot := { x with switch := { raw, pending := some 200 } }

theorem witness_SwitchChangesArePendingThenTaken :
    (∀ life ∈ [LifeState.empty, .reserved, .unloading, .seated, .held, .faulted, .dispatch], ∀ raw ∈ [true, false],
      ((put 0 (changing raw (resting life))).slot 0).switch.pending = some 200 ∧
        ((put 0 (changing raw (resting life))).slot 0).switch.raw = raw ∧
        ((put 0 (changing raw (resting life))).record 0).life = life) ∧
      (carrying (.seat 0 0 true) .reset).handler.transfer = .seat 0 0 true ∧
      (queued true .reset).isOffered 0 = true ∧ (queued false .reset).isOffered 0 = false := by decide

theorem witness_PulledDriveEndsItsRun :
    (put 0 (changing false (running .running))).Sound ∧ (put 0 (changing false parking)).Sound ∧
      ((put 0 (changing false parking)).record 0).life = .parking ∧
      ((put 0 (changing false (running .running))).slot 0).switch.pending = some 200 :=
  ⟨sound_of_checks (by decide), sound_of_checks (by decide), by decide, by decide⟩

theorem witness_ReadyLineIsCaptured :
    (put 0 (spinning .initial)).Sound ∧ (planned .cycle (put 0 (spinning .cycle))).Sound ∧
      ((put 0 (spinning .cycle)).record 0).position ≠ none ∧ ((put 0 (spinning .cycle)).power 0).spinup ≠ none ∧
      ((put 0 { spinning .initial with ready := true }).slot 0).ready = true :=
  ⟨sound_of_checks (by decide), sound_of_checks (by decide), by decide, by decide, by decide⟩

/-- A slot spinning up to close its CYCLE step. -/
def closing : Slot :=
  let x := spinning .cycle
  { x with record := { x.record with position := x.record.position.map fun q => { q with cycleNumber := 3 } } }

/-- Each kind of capture: after an INITIAL spin-up with the link OK and LOST, in a cycle, and closing a CYCLE step that
is the last of its plan or not. -/
theorem witness_ReadyLineIsCaptured_each :
    (∀ x ∈ [spinning .initial, { spinning .initial with record := { (spinning .initial).record with link := .lost } },
        spinning .cycle, closing],
      (planned .cycle (put 0 x)).Sound ∧ x.ready = false ∧ x.power.amounts = some { surge := 25, running := 8 } ∧
        x.record.powerOnAt = some 0) ∧
      (spinning .initial).record.position = none ∧ ((planned .cycle (put 0 closing)).slotStep 0).kind = .cycle ∧
      ((planned .cycle (put 0 closing)).slotHead 0).stepCount ≤ 0 + 1 ∧
      (let s := { planned .cycle (put 0 closing) with
          planHeads := State.reset.planHeads.set 0 { PlanHead.reset with stepCount := 2 } }
       0 + 1 < (s.slotHead 0).stepCount) := by
  refine ⟨fun x hx => ⟨sound_of_checks ?_, ?_, ?_, ?_⟩, by decide, by decide, by decide, by decide⟩ <;> revert x <;> decide

/-- An INITIAL capture while a CONTINUE after a poll is in flight in the reserved place. -/
theorem witness_ReadyLineIsCaptured_displaced :
    let s := window (.queued (.cont .poll)) awaiting
      (put 0 { spinning .initial with bus := { queue := [.cont .poll], poll := .running 0 } })
    s.Sound ∧ (s.slot 0).ready = false ∧ OneReserved (s.slotBus 0).queue ∧ (s.slotWindow 0).isSome = true :=
  ⟨sound_of_checks (by decide), by decide, by unfold OneReserved; decide, by decide⟩

theorem witness_SpinUpsTimeOut :
    (put 0 (spinning .initial)).Sound ∧ (planned .cycle (put 0 (spinning .cycle))).Sound ∧
      (planned .cycle (put 0 closing)).Sound ∧ (closing.record.position.map StepPosition.cycleNumber) = some 3 ∧
      ((put 0 { running .running with power := { (running .running).power with guard := some 60 } }).power 0).guard =
        some 60 :=
  ⟨sound_of_checks (by decide), sound_of_checks (by decide), sound_of_checks (by decide), by decide, by decide⟩

/-- A running slot with its counters at given values. -/
def counted (over12 over5 dark : Nat) : Slot :=
  { running .running with power := { (running .running).power with over12, over5, dark } }

theorem witness_SamplesAreCounted :
    (put 0 (counted 2 2 99)).Sound ∧ ((put 0 (counted 2 2 99)).power 0).sampleDue = some 10 ∧
      State.reset.settings.runCeiling < 4094 ∧ 4 < State.reset.settings.darkThreshold ∧
      (State.reset.power 0).sampleDue = none :=
  ⟨sound_of_checks (by decide), by decide, by decide, by decide, by decide⟩

theorem witness_ControlPeriodsAndHoldsAdvanceTheZone :
    zoneTemperature (sensorReading 0 (reads 100).sensor0) (sensorReading 0 (reads 100).sensor1) = some 100 ∧
      (∀ x ∈ [ZoneState.off, .cool, .ramp, .hold, .sensorFault, .shutdown],
        ((zoned x (some (atSegment 1))).zone 0).state = x ∧ ((zoned x none).zone 0).left ≠ .sensorFault ∧
          ((zoned x none).zone 0).left ≠ .shutdown) ∧
      ((zoned .hold (some (atSegment 1))).zone 0).position = some (atSegment 1) ∧
      (zoned .hold (some (atSegment 1))).mode = .run ∧ ((zoned .hold (some (atSegment 1))).zone 0).entry = .reset := by
  decide

theorem witness_ProfilesAdvanceBySegments :
    ((zoned .ramp (some (atSegment 0))).zone 0).position = some (atSegment 0) ∧ 1 < (atSegment 2).holdLeft ∧
      ({ (zoned .hold (some (atSegment 1))).zone 0 with staged := some Profile.reset } : Zone).staged = some .reset := by
  decide

theorem witness_LostSensorsAndTripsStopTheZone :
    let s := zoned .hold (some (atSegment 2)) (put 0 (running .running))
    s.Sound ∧ (s.zone 0).Sound ∧ (s.zone 0).state = .hold ∧
      zoneTemperature (sensorReading 0 (reads 400).sensor0) (sensorReading 0 (reads 400).sensor1) = some 400 ∧
      ((s.zone 0).entry.criticalLimit : Int) < 400 ∧ (put 0 parking).Sound := by
  refine ⟨sound_of_checks (by decide), ?_, by decide, by decide, by decide, sound_of_checks (by decide)⟩
  exact ⟨by decide, by rintro _ ⟨⟩; decide, by decide, by decide, by rintro _ ⟨⟩, by decide, by decide⟩

/-- A zone that comes back from SENSOR_FAULT and trips, beside a DRIVE step on a LOST link that waits for its gate; and a
PARKING slot whose rails are off. -/
theorem witness_LostSensorsAndTripsStopTheZone_returning :
    let s := zoned .sensorFault none (planned .drive (put 0 { lost with
      record := { lost.record with position := (running .waitGate).record.position } }))
    s.Sound ∧ (s.zone 0).Sound ∧ (s.zone 0).state = .sensorFault ∧ s.mode = .run ∧ s.inPhase 0 .waitGate = true ∧
      (s.slotStep 0).kind = .drive ∧ (s.record 0).link = .lost ∧ ((put 0 parking).record 0).life = .parking ∧
      ((put 0 parking).record 0).powerPhase ≠ some .on := by
  refine ⟨sound_of_checks (by decide), ?_, by decide, by decide, by decide, by decide, by decide, by decide, by decide⟩
  exact ⟨by decide, by rintro _ ⟨⟩, by decide, by decide, by rintro _ ⟨⟩, by decide, by decide⟩

theorem witness_WindowsAreGrantedAndAwaitReplies :
    let s := put 0 (messaging (.raw 7 [] 1))
    (s.bus 0).window = none ∧ s.due (slotAt 0 0) = true ∧
      (∀ p', s.due (slotAt 0 p') = true → (0 + 5 - (s.bus 0).pointer.val) % 6 ≤ (p'.val + 5 - (s.bus 0).pointer.val) % 6) ∧
      ((window .poll .sending s).bus 0).window.isSome = true ∧ assemble [] [0x180] = .partialReply [0x80] ∧
      assemble [0x80] [0x180] = .broken ∧ InTime 20 20 20 0 [] ∧ InTime 20 0 20 0 [0x80] ∧
      (s.slotBus 0).poll = .running 0 := by unfold InTime; decide

/-- The reply of a drive at position 0. -/
def answered (kind : Byte) (body : List Byte) : List BusChar := driveReplyChars 0 kind false body

theorem witness_ValidRepliesAreTaken :
    assemble [] (answered 0x42 reportBody) = .complete (driveReplyBytes 0 0x42 false reportBody) ∧
      judgeReply 0 .poll (driveReplyBytes 0 0x42 false reportBody) =
        some { kind := 0x42, continues := false, body := reportBody } ∧
      (reportOf reportBody).isSome = true ∧
      judgeReply 0 (.queued (.raw 7 [] 1)) (driveReplyBytes 0 0x45 false [3]) =
        some { kind := 0x45, continues := false, body := [3] } ∧
      ((window .poll awaiting lively).bus 0).window =
        some { position := 0, count := 1, frame := .poll, stage := awaiting, removed := false } ∧
      answered 0x42 reportBody ≠ [] ∧ InTime lively.now 20 20 0 [] := by unfold InTime; decide +kernel

/-- A message is in flight to slot 0, with the slot as it then stands. -/
def sent (m : Message) (x : Slot) (deferred : Option Message := none) : State :=
  window (.queued (.message m)) awaiting
    (put 0 { x with
      run := { x.run with outstanding := some m, deferred }, bus := { queue := [.message m], poll := .running 0 } })

/-- Slot 0 is spun up and identified by the answer to come. -/
def identifying : Slot :=
  let x := running .between
  { x with record := { x.record with position := none }, run := { x.run with stage := .identify } }

/-- Slot 0 waits for its park. -/
def parkWaiting : Slot :=
  let x := running .running
  { x with
    record := { x.record with life := .parking, position := none }, run := { x.run with stage := .parkWait } }

/-- The answers to the messages of the Step Sequencer, NAK among them, in each stage that they act on. -/
theorem witness_ValidRepliesAreTaken_messages :
    (∀ m ∈ [Message.identify, .runTest 7 0, .stopTest, .park],
      judgeReply 0 (.queued (.message m)) (driveReplyBytes 0 0x44 true [3]) =
          some { kind := 0x44, continues := true, body := [3] } ∧
        assemble [] (driveReplyChars 0 0x44 true [3]) = .complete (driveReplyBytes 0 0x44 true [3]) ∧
        (sent m (running .running)).inFlightHeads 0 = true ∧
        ((sent m (running .running)).bus 0).window.any fun w =>
          w.stage == awaiting && !w.removed && w.frame == .queued (.message m)) ∧
      (∀ m : Message, OneReserved ((sent m (running .running)).slotBus 0).queue) ∧
      (sent .identify identifying).Sound ∧ ((sent .identify identifying).run 0).stage = .identify ∧
      ((sent .identify identifying).record 0).position = none ∧
      (sent (.runTest 7 0) (running .starting)).inPhase 0 .starting = true ∧
      ((sent .stopTest (running .starting) (some (.runTest 7 0))).run 0).deferred = some (.runTest 7 0) ∧
      ((sent .stopTest parkWaiting (some .park)).run 0).deferred = some .park ∧
      (sent .park parkWaiting).Sound ∧ (sent .park parkWaiting).parkAwaited 0 ∧
      (sent .park (running .cycleOff)).Sound ∧ (sent .park (running .cycleOff)).parkAwaited 0 ∧
      ¬ (sent .park (running .running)).parkAwaited 0 ∧ 0 < State.reset.settings.spinDownWait := by
  refine ⟨by decide +kernel, fun m => by cases m <;> exact Nat.le_refl 1, sound_of_checks (by decide), by decide, by decide, by decide,
    by decide, by decide, sound_of_checks (by decide), ?_, sound_of_checks (by decide), ?_, ?_, by decide⟩ <;>
  unfold State.parkAwaited <;> decide

/-- Replies that continue, and each kind of frame they can answer. -/
theorem witness_ValidRepliesAreTaken_continued :
    (∀ f ∈ [BusFrame.queued (.raw 7 [] 1), .queued (.cont (.raw 1 255))],
      judgeReply 0 f (driveReplyBytes 0 0x45 true [3]) = some { kind := 0x45, continues := true, body := [3] }) ∧
    (∀ f ∈ [BusFrame.queued (.cont (.message .park)), .queued (.message (.runTest 7 0))],
      judgeReply 0 f (driveReplyBytes 0 0x43 true []) = some { kind := 0x43, continues := true, body := [] }) ∧
    judgeReply 0 .poll (driveReplyBytes 0 0x42 true reportBody) =
      some { kind := 0x42, continues := true, body := reportBody } ∧
    (Continued.message .park).isRaw = false ∧ (lively.driveRunning 0) = false ∧
    (window .poll awaiting lively).inFlightHeads 0 = true ∧
    (put 0 (running .starting)).inPhase 0 .starting = true := by decide +kernel

theorem witness_MissesAreCounted :
    assemble [] (answered 0x43 []) = .complete (driveReplyBytes 0 0x43 false []) ∧
      judgeReply 0 .poll (driveReplyBytes 0 0x43 false []) = none ∧ assemble [0x80] [0x180] = .broken ∧
      ((window .poll awaiting lively).record 0).link = .ok ∧ ((put 0 lost).record 0).link = .lost ∧
      ¬ InTime 21 20 20 0 [] ∧ ¬ InTime 21 0 20 0 [0x80] ∧ answered 0x43 [] ≠ [] ∧
      State.reset.settings.retryLimit + 1 ≤ min 8 (2 + 1) ∧ (1 : Nat) < State.reset.settings.retryLimit + 1 := by
  unfold InTime; decide +kernel

/-- A slot whose next miss loses its link, and one whose link is LOST. -/
def failing (link : LinkState) (x : Slot) : Slot := { x with record := { x.record with link, misses := 2 } }

/-- Misses on the messages of the Step Sequencer, at the limit and on a LOST link, in each stage that they act on. -/
theorem witness_MissesAreCounted_messages :
    (∀ m ∈ [Message.identify, .runTest 7 0, .stopTest, .park], ∀ link ∈ [LinkState.ok, .lost],
      let s := sent m (failing link (running .running))
      (s.bus 0).window.any (fun w => w.messageLost == some m && w.stage == awaiting) ∧
        ((s.bus 0).window.any fun w => decide (w.position = 0)) ∧ s.settings.retryLimit + 1 ≤ min 8 ((s.record 0).misses + 1)) ∧
      (∀ link ∈ [LinkState.ok, .lost],
        (sent .identify (failing link identifying)).Sound ∧ (sent .park (failing link parkWaiting)).Sound ∧
          (sent .stopTest (failing link parkWaiting) (some .park)).Sound) ∧
      ((sent .identify (failing .ok identifying)).record 0).position = none ∧
      (sent (.runTest 7 0) (failing .ok (running .starting))).inPhase 0 .starting = true ∧
      ((planned .drive (sent .stopTest (failing .ok (running .running)))).driveRunning 0) = true := by
  refine ⟨by decide, fun link hl => ⟨sound_of_checks ?_, sound_of_checks ?_, sound_of_checks ?_⟩, by decide, by decide,
    by decide⟩ <;> revert link <;> decide

theorem witness_StepAndSpinDownTimersRunOut :
    (put 0 (running .waitGate (.running 900))).stepDeadline 0 = some 900 ∧
      (put 0 (running .waitGate (.running 900))).inPhase 0 .waitGate = true ∧
      ((planned .drive (put 0 (running .running (.running 900)))).slotStep 0).kind = .drive ∧
      ((planned .dwell (put 0 (running .running (.running 900)))).slotStep 0).kind = .dwell ∧
      (put 0 (running .cycleOn (.running 900) (2, 2))).inPhase 0 .cycleOn = true ∧
      State.reset.stepDeadline 0 = none ∧ ((put 0 parking).run 0).spinDown = some 20000 ∧
      (let s := planned .dwell (put 0 (running .running (.running 900)) { State.reset with mode := .safe })
       s.mode = .safe ∧ s.stepIndex 0 + 1 <
        (({ s with planHeads := s.planHeads.set 0 { PlanHead.reset with stepCount := 2 } } : State).slotHead 0).stepCount) := by
  decide

theorem witness_CyclesGoOffAndOn :
    (planned .cycle (put 0 (running .cycleOn (.running 900) (1, 2)))).Sound ∧
      (put 0 (running .cycleOn (.running 900) (1, 2))).stepDeadline 0 = some 900 ∧
      ((planned .cycle (put 0 (running .cycleOn))).slotHead 0).parkBeforeCycle = false ∧
      (put 0 cycledOff).inPhase 0 .cycleOff = true ∧ (put 0 cycledOff).stepDeadline 0 = some 900 ∧
      cycledOff.record.priority = some 1 ∧ cycledOff.power.amounts = some { surge := 25, running := 8 } :=
  ⟨sound_of_checks (by decide), by decide, by decide, by decide, by decide, by decide, by decide⟩

theorem witness_PowerOnResetRestoresEverything :
    (Vector.replicate 4 (reads 80))[(0 : BayId).val] = { sensor0 := some 80, sensor1 := some 80 } ∧
      (Vector.replicate 4 ({ sensor0 := some 380, sensor1 := none } : ZoneReads))[(0 : BayId).val] =
        { sensor0 := some 380, sensor1 := none } := by decide

theorem witness_WarmResetDropsTheWorkInFlight :
    (sending .due).cell.restart = .due ∧ (sending .called).cell.restart ≠ .due ∧ (lively.record 0).presence = .present ∧
      lively.settings.autostart = none ∧ (lively.record 1).presence = .absent ∧
      (let s := { lively with settings := { lively.settings with autostart := some 0 } }
       let started := after (.warmReset .line (Vector.replicate 4 (reads 80))) s
       let tripped := after (.warmReset .line (Vector.replicate 4 (reads 400))) s
       (s.planHead 0).stepCount ≠ 0 ∧ (started.zone (bayOf 0)).state ≠ .shutdown ∧
         (tripped.zone (bayOf 0)).state = .shutdown) := by decide +kernel

theorem witness_AdmissionFillsTheBudget :
    let s : State := { waitingForPower with admissionDue := true }
    s.mode = .run ∧ s.admissionDue = true ∧ s.pickDue = false ∧
      s.admission = (Vector.replicate 4 []).set 1 [{ slot := 0, priority := 1, surge := 25, kind := .initial }] ∧
      s.reservedSum + 25 ≤ s.settings.budget ∧ s.finish.admissionHead = none ∧
      ({ s with settings := { s.settings with budget := 20 } } : State).finish.admissionHead ≠ none ∧
      (after .silenceExpired s).mode = .safe ∧
      s.admission[(1 : Fin 4).val] = { slot := 0, priority := 1, surge := 25, kind := .initial } :: [] ∧
      (∀ l' : Fin 4, 1 < l' → s.admission[l'.val] = []) ∧ State.reset.admission = Vector.replicate 4 [] := by
  decide +kernel

/-- A pick can be offered: slot 0 is queued for a bin that goes to lane 2. -/
def offering : State :=
  queued false
    { State.reset with
      binMap := Vector.replicate 10 (.lane 2), dispatch := { DispatchUnit.reset with enabled := true } }

theorem witness_PickSelectionTakesTheOldest :
    offering.mode = .run ∧ offering.dispatch.stall = none ∧ offering.handler.transfer = .idle ∧
      offering.dispatch.manifest.length ≤ 47 ∧
      (queued false offering).dispatch.queue = [] ++ { slot := 0, bin := 8, offered := false } :: [] ∧
      (queued false { offering with dispatch := { offering.dispatch with enabled := true } }).dispatch.enabled = true ∧
      offering.destination 8 = .lane 2 ∧ (offering.lane 2).state = .open := by decide

/-! ### Ill-formed commands are refused by the checks -/

theorem test_wellFormed_refuses_reads :
    (Instr.powerOnReset (Vector.replicate 4 (reads 512))).wellFormed = false ∧
      (Instr.warmReset .line (Vector.replicate 4 (reads 512))).wellFormed = false ∧
      (Instr.controlPeriod 0 { sensor0 := none, sensor1 := some 512 }).wellFormed = false ∧
      (Instr.holdExpiry 0 (reads 512)).wellFormed = false ∧ (Instr.controlPeriod 0 (reads 511)).wellFormed = true := by
  decide

theorem test_wellFormed_refuses_empty_runs :
    (Instr.cellFrameReceived []).wellFormed = false ∧ (Instr.handlerFrameMalformed []).wellFormed = false ∧
      (Instr.driveReplyReceived 0 []).wellFormed = false ∧ (Instr.replyBrokenByMarkByte 0 []).wellFormed = false := by
  decide

/-- The table gives no row bits, so no word spells a command. -/
theorem test_no_word_spells_a_command : decodeTableWord 8 1 = none ∧ State.reset.withFetchWord 8 1 = State.reset := by
  decide +kernel

/-! ### Check values of R197 -/

/-- The nine characters "123456789". -/
def digits : List Byte := [0x31, 0x32, 0x33, 0x34, 0x35, 0x36, 0x37, 0x38, 0x39]

theorem test_crc16_check_value : crc16 digits = 0x29B1 := by decide +kernel
theorem test_crc8_check_value : crc8 digits = 0xF4 := by decide +kernel

/-! ### The worked case of grading (7.9, 7.10) -/

/-- The METRIC table of the worked case. -/
def workedMetrics : Vector MetricEntry 6 :=
  #v[⟨8000, 2, 20000⟩, ⟨20, 40, 200⟩, ⟨12, 25, 500⟩, ⟨5, 50, 15⟩, ⟨2, 100, 20⟩, ⟨0, 255, 3⟩]

/-- The GRADE table of the worked case. -/
def workedGrades : Vector GradeEntry 8 :=
  #v[⟨true, 500, 0x3F⟩, ⟨true, 1500, 0x07⟩, ⟨true, 4000, 0x03⟩, ⟨false, 0, 0⟩, ⟨false, 0, 0⟩, ⟨false, 0, 0⟩,
    ⟨false, 0, 0⟩, ⟨false, 0, 0⟩]

/-- The record of slot 7 in the worked case, with its retry and kiloblock totals. -/
def workedRecord (r k : Nat) : SlotRecord :=
  { SlotRecord.fresh .active .present with
    identity := some { serial := [], model := 0, capacity := 0 }
    metrics :=
      { MetricRecord.fresh with
        spin := some 8650, grow := some 37, texc := some 3, link := some 1, pcyc := some 0, retryTotal := r
        kiloblockTotal := k } }

theorem test_worked_grade :
    gradeOf workedMetrics workedGrades (workedRecord 150000 7500000) none = { bin := 2, score := 2180, reason := .scored } ∧
      (workedRecord 150000 7500000).metrics.graded.rrate = some 20 := by decide +kernel

theorem test_saturated_retries :
    gradeOf workedMetrics workedGrades (workedRecord 16777215 1) none =
      { bin := binReject, score := 65535, reason := .limit 2 } := by decide +kernel

theorem test_rrate_exact_half :
    (workedRecord 3 2048).metrics.graded.rrate = some 2 ∧ (workedRecord 1 2048).metrics.graded.rrate = some 1 ∧
      (workedRecord 1 2049).metrics.graded.rrate = some 0 ∧ (workedRecord 5 0).metrics.graded.rrate = none := by
  decide +kernel

theorem test_aborted_from_seated :
    gradeOf workedMetrics workedGrades (.fresh .seated .present) (some .aborted) =
      { bin := binReject, score := 0, reason := .forced .aborted } := by decide +kernel

theorem witness_GradesFollowTheTables :
    (workedRecord 150000 7500000).identity ≠ none ∧ (SlotRecord.fresh .active .present).identity = none ∧
      (∀ k : Fin 6, ((workedRecord 150000 7500000).metrics.graded.value k).all
        fun v => decide (v ≤ (workedMetrics[k.val]).rejectLimit)) ∧
      (workedRecord 5 0).metrics.kiloblockTotal = 0 ∧ 0 < (workedRecord 150000 7500000).metrics.kiloblockTotal ∧
      (gradeOf workedMetrics workedGrades (workedRecord 16777215 1) none).reason = .limit 2 := by decide +kernel

/-! ### The zone trace of Table 3-7 -/

/-- Zone 1 of the example, with its temperature and the accumulator of its position. -/
def traced (state : ZoneState) (acc temperature : Int) : Zone :=
  { Zone.reset with
    param := { ZoneParam.reset with kp := 30 }, state, temperature := some temperature
    active :=
      { segmentCount := 2, loopCount := 1
        segments := ((Vector.replicate 12 .reset).set 0 { target := 240, rate := 20, hold := 2 }).set 1
          { target := 200, rate := 0, hold := 30 } }
    position := some { segment := 0, loop := 1, acc, holdLeft := 1 } }

theorem test_zone_trace_duties :
    (traced .ramp 6000 100).duties .run = (60, 64) ∧ (traced .ramp 7200 112).duties .run = (120, 64) ∧
      (traced .ramp 8400 129).duties .run = (142, 64) ∧ (traced .ramp 12000 196).duties .run = (90, 64) ∧
      (traced .hold 14400 243).duties .run = (38, 76) ∧ (traced .hold 12000 240).duties .run = (0, 224) ∧
      (traced .ramp 8400 129).duties .safe = (0, 255) := by decide

theorem test_zone_trace_ramp_arrives :
    (traced .ramp 14380 236).advance.1.state = .hold ∧ (traced .ramp 6000 100).advance.1.state = .ramp ∧
      ((traced .ramp 14380 236).advance.1.position.map ZonePosition.holdLeft) = some 120 ∧
      ((traced .ramp 6000 100).advance.1.position.map ZonePosition.acc) = some 6020 := by decide

theorem test_zone_trace_next_segment_holds_at_once :
    (traced .hold 14400 240).advance.2 = some .nextSegment ∧ (traced .hold 14400 240).advance.1.state = .hold ∧
      ((traced .hold 14400 240).advance.1.position.map ZonePosition.acc) = some 12000 := by decide

/-! ### Admission and cycling (Tables 2-2 and 6-2) -/

/-- A slot waiting for power at a level with an amount. -/
def waitsFor (i : SlotId) (level : Fin 4) (surge running' : Nat) (s : State) : State :=
  let x := running .between
  let t := put i { x with
    record := { x.record with powerPhase := some .queued, reserved := 0, position := none }
    power := { PowerContext.idle with amounts := some { surge, running := running' } }
    run := { x.run with stage := .powerWait } } s
  { t with
    admission := t.admission.set level.val
      (t.admission[level.val] ++ [{ slot := i, priority := level, surge, kind := .initial }]) }

/-- Slot 2 spins up on plan 0; slot 8 heads level 2 and slot 3 level 1; the budget is 6.0 A. -/
def table22 : State :=
  waitsFor 3 1 25 8 (waitsFor 8 2 40 12
    (put 2 (spinning .initial) { State.reset with settings := { Settings.reset with budget := 60 } }))

theorem test_capture_admits_slot_8_alone :
    let t := after (.readyLineChange 2 true) table22
    t.reservedSum = 48 ∧ (t.record 2).reserved = 8 ∧ (t.record 8).reserved = 40 ∧ (t.record 3).reserved = 0 ∧
      t.admission.toList.map List.length = [0, 1, 0, 0] := by decide +kernel

theorem test_head_of_line_holds_back_slot_3 :
    let t := State.finish { table22 with admissionDue := true }
    t.reservedSum = 25 ∧ (t.record 8).powerPhase = some .queued ∧ (t.record 3).powerPhase = some .queued := by
  decide +kernel

theorem test_budget_below_the_sum_is_in_use :
    let t := after .shelfConfig (asked 0x03 [0, 0, 4, 0, 20] table22)
    t.settings.budget = 60 ∧
      t.cell.line = some (.reply { kind := 0x03, tag := 7, status := .inUse, adjusted := false, body := [] }) := by
  decide +kernel

theorem test_cycle_capture_takes_the_larger_spin :
    let x := spinning .cycle
    let y : Slot := { x with record := { x.record with metrics := { x.record.metrics with spin := some 7800 } } }
    let t := after (.readyLineChange 0 true) { planned .cycle (put 0 y) with now := 9100 }
    (t.record 0).metrics.spin = some 9100 ∧ (t.record 0).powerPhase = some .on ∧
      t.stepDeadline 0 = some (9100 + 60000) := by decide +kernel

theorem test_cycle_timeout_raises_pcyc :
    let x := spinning .cycle
    let y : Slot := { x with record := { x.record with metrics := { x.record.metrics with pcyc := some 0 } } }
    let t := after (.spinupTimeout 0) (planned .cycle (put 0 y))
    (t.record 0).metrics.pcyc = some 1 ∧ (t.power 0).rails = false ∧
      (t.record 0).position.map StepPosition.cycleNumber = some 2 := by decide +kernel

theorem test_off_time_admits_again :
    let x := running .cycleOff (.running 900) (1, 3)
    let y : Slot := { x with
      record := { x.record with powerPhase := some .off, reserved := 0 }
      power := { PowerContext.idle with amounts := x.power.amounts } }
    let t := after (.cycleOffExpiry 0) (planned .cycle (put 0 y))
    (t.record 0).powerPhase = some .spinup ∧ (t.record 0).reserved = 25 := by decide +kernel

/-! ### Dispatch and transfers (Tables 8-5 and 9-5) -/

/-- Slot 3 is carried to lane 1; slots 7 and 12 wait in the dispatch queue. -/
def table85 : State :=
  let s := put 12 (graded .dispatch binReject) (put 7 (graded .dispatch 2) (put 3 (graded .unloading 2)))
  { s with
    binMap := ((Vector.replicate 10 .hold).set 2 (.lane 1)).set 8 (.lane 5)
    lanes := ((Vector.replicate 6 .reset).set 1 { capacity := 2, count := 1, toteSequence := 7, state := .open }).set 5
      { capacity := 20, count := 0, toteSequence := 3, state := .open }
    dispatch := { DispatchUnit.reset with
      enabled := true, nextRecord := 41
      queue := [{ slot := 7, bin := 2, offered := false }, { slot := 12, bin := 8, offered := false }] }
    handler := { HandlerPort.reset with transfer := .pick .carrying 3 1 0, timer := some 30000 } }

theorem test_done_books_and_passes_over_the_full_lane :
    let t := after (.handlerDone 0 3) table85
    (t.lane 1).state = .full ∧ (t.lane 1).count = 2 ∧ (t.record 3).life = .empty ∧
      t.handler.transfer = .pick .offered 12 5 0 ∧ t.dispatch.nextRecord = 42 ∧
      t.dispatch.manifest.map (fun m => (m.number, m.slot, m.toteSequence, m.place)) = [(41, 3, 7, 2)] := by decide +kernel

theorem test_lane_open_on_a_full_lane_changes_nothing :
    let s := { table85 with lanes := table85.lanes.set 1 { capacity := 2, count := 2, toteSequence := 7, state := .full } }
    (after .laneOpen (asked 0x2A [1] s)).lanes = s.lanes := by decide +kernel

theorem test_tote_in_opens_the_lane :
    let t := after (.toteIn 0 1) { table85 with handler := .reset }
    t.lane 1 = { capacity := 2, count := 0, toteSequence := 8, state := .open } ∧
      t.handler.transfer = .pick .offered 7 1 0 := by decide +kernel

theorem test_capacity_write_is_brought_to_the_floor :
    let t := after .tableWrite (asked 0x04 [8, 1, 1, 1] table85)
    (t.lane 1).capacity = 2 ∧
      t.cell.line = some (.reply { kind := 0x04, tag := 7, status := .ok, adjusted := true, body := [] }) := by
  decide +kernel

theorem test_refused_stalls_dispatch :
    let s := { table85 with
      handler := { table85.handler with transfer := .pick .offered 7 1 0 }
      dispatch := { table85.dispatch with queue := [{ slot := 7, bin := 2, offered := true }] } }
    let t := after (.handlerRefused 9 7 6) s
    t.dispatch.stall = some { cause := .refused 6, slot := 7, lane := 1 } ∧ t.handler.transfer = .idle ∧
      t.handler.line = some (.ack 0x43 9) := by decide +kernel

theorem test_resume_offers_the_oldest_again :
    let s := { table85 with
      handler := .reset
      dispatch := { table85.dispatch with stall := some { cause := .noAnswer, slot := 7, lane := 1 } } }
    (after .handlerResume (asked 0x30 [] s)).handler.transfer = .pick .offered 7 1 0 := by decide +kernel

theorem test_late_taken_is_not_expected :
    (after (.handlerTaken 9 14) .reset).handler.line = some (.nak 0x42 .notExpected 9) := by decide +kernel

theorem test_seat_denied_in_safe_before_busy :
    (after (.seatRequest 9 1) { table85 with mode := .safe }).handler.line = some (.deny 1 .safe 9) := by decide +kernel

/-! ### The Cell Link -/

theorem test_fifth_request_is_refused_full :
    let q : Request := theRequest 0x01 []
    let s := { sending .none with cell := { (sending .none).cell with input := [q, q, q, q], refusals := [] } }
    let t := after (.cellFrameReceived (frameBytes 0x02 5 [])) s
    t.cell.refusals = [(0x02, 5)] ∧ t.cell.input.length = 4 := by decide +kernel

theorem test_ping_in_safe_leaves_the_timer_stopped :
    let s := after .silenceExpired State.reset
    let t := after .ping (after (.cellFrameReceived (frameBytes 0x01 5 [1])) s)
    t.mode = .safe ∧ t.silence.timer = none ∧
      t.cell.line = some (.reply { kind := 0x01, tag := 5, status := .ok, adjusted := false, body := [1] }) := by
  decide +kernel

theorem test_a_gap_over_the_limit_discards_the_frame :
    let l := frameBytes 0x01 7 [1]
    let s := after (.cellFrameReceived (l.take 3)) State.reset
    (after (.cellFrameReceived (l.drop 3)) { s with now := 5 }).cell.input.length = 1 ∧
      (after (.cellFrameReceived (l.drop 3)) { s with now := 6 }).cell.input = [] ∧
      (after (.frameGapTimeout .cell) s).now = 5 ∧ (after (.frameGapTimeout .cell) s).cell.rx = .hunting := by
  decide +kernel

theorem test_sync_byte_inside_a_frame :
    Receiver.hunting.feedAll 0 (frameBytes 0x01 syncByte [syncByte, syncByte]) =
      (.hunting, [{ kind := 0x01, tag := syncByte, body := [syncByte, syncByte] }]) := by decide +kernel

/-! ### Slots, power and buses -/

theorem test_gain_seats_the_slot :
    ((after (.presenceTaken 5) (put 5 (changing true (resting .empty .absent)))).record 5).life = .seated := by
  decide +kernel

theorem test_three_samples_over_the_ceiling_fault_the_slot :
    let t := after (.currentSample 0 4095 0) (put 0 (counted 2 0 0))
    (t.record 0).life = .faulted ∧ (t.record 0).fault = some .power ∧ (t.power 0).rails = false := by decide +kernel

theorem test_window_after_the_pointer :
    let s := put 2 (messaging (.raw 7 [] 1)) (put 0 (messaging (.raw 7 [] 1)))
    let t := after (.windowGrant 0) { s with buses := s.buses.set 0 { window := none, pointer := 0 } }
    (t.bus 0).pointer = 2 ∧ (t.bus 0).window.map Window.frame = some (.queued (.raw 7 [] 1)) := by decide +kernel

theorem test_third_miss_loses_the_link :
    let x := running .running
    let s := put 0 { x with record := { x.record with misses := 2 } } (planned .drive .reset)
    let t := after (.replyWaitExpiry 0) (window .poll awaiting s)
    (t.record 0).link = .lost ∧ (t.record 0).misses = 3 := by decide +kernel

theorem test_drive_passed_ends_the_step :
    let s := window .poll awaiting (put 0 (running .running) { planned .drive .reset with
      planSteps := State.reset.planSteps.set 0 { PlanStep.reset with kind := .drive, testCode := 7 } })
    let t := after (.driveReplyReceived 0 (answered 0x42 [2, 7, 100, 30, 0, 0, 3, 232, 0, 0, 5, 0, 1])) s
    (t.record 0).outcomes = [{ index := 0, outcome := .passed }] ∧ (t.record 0).metrics.kiloblockTotal = 1000 ∧
      (t.record 0).metrics.retryTotal = 5 ∧ (t.record 0).metrics.grow = some 1 := by decide +kernel

theorem test_spin_down_places_by_the_bin_map :
    let x : Slot := { parking with record := { parking.record with grade := some { bin := 2, score := 0, reason := .scored } } }
    let t := after (.spinDownExpiry 0) (put 0 x { State.reset with binMap := Vector.replicate 10 (.lane 1) })
    (t.record 0).life = .dispatch ∧ t.dispatch.queue = [{ slot := 0, bin := 2, offered := false }] ∧ t.now = 20000 := by
  decide +kernel

/-- A ZONE_PARAM write acts from the next control period, and reads back at once (R70). -/
theorem test_zone_parameters_act_from_the_next_period :
    let body : List Byte := [4, 0, 1, 0, 0, 8, 40, 60, 16, 100, 255, 1, 84, 1, 124, 0, 140, 0]
    let t := after .tableWrite (asked 0x04 body)
    (t.zone 0).entry.fanFloor = 100 ∧ (t.zone 0).fan = 64 ∧ (after (.controlPeriod 0 (reads 100)) t |>.zone 0).fan = 100 ∧
      (t.zone 0).duties .run = (0, 64) := by decide +kernel

/-- A reply that begins when the reply wait has run out is a miss; at its very instant it is taken (R79; log 2). -/
theorem test_late_reply_is_a_miss :
    let s := window .poll awaiting lively
    let reply := Instr.driveReplyReceived 0 (answered 0x42 reportBody)
    ((after reply { s with now := 21 }).record 0).misses = 1 ∧ ((after reply { s with now := 20 }).record 0).misses = 0 := by
  decide +kernel

/-- A zone that comes back reports its state at that change, before its profile ends in the same period (R74, R108). -/
theorem test_returning_zone_reports_before_its_profile_ends :
    let x := running .waitGate
    let s := zoned .sensorFault (some (atSegment 1)) (put 0 x (planned .dwell .reset))
    let u := { s with
      zones := s.zones.set 0 { s.zone 0 with left := .hold }
      planSteps := s.planSteps.set 0 { PlanStep.reset with kind := .dwell, gate := .hold } }
    let t := after (.controlPeriod 0 (reads 80)) u
    (t.zone 0).state = .cool ∧ t.inPhase 0 .running = true := by decide +kernel

/-- A reply whose length is above 60 is judged, and missed, when it is complete (R200). -/
theorem test_long_reply_is_assembled_by_its_length :
    let l : List Byte := [0x80, 0x45, 61] ++ List.replicate 61 0
    assemble [] (0x180 :: l.tail.map (·.zeroExtend 9)) = .partialReply l ∧ assemble l [0] = .complete (l ++ [0]) ∧
      judgeReply 0 (.queued (.raw 7 [] 1)) (l ++ [crc8 l]) = none := by decide +kernel

/-- A well-formed handler frame acts as its message, a malformed one does nothing (R199). -/
theorem test_handler_bytes_act_as_the_message_they_complete :
    let t := after (.handlerFrameMalformed (frameBytes 0x46 9 [1] ++ frameBytes 0x46 9 [1, 1])) State.reset
    (t.lane 1).toteSequence = 1 ∧ t.handler.line = some (.ack 0x46 9) ∧ t.handler.out = [] := by decide +kernel

theorem test_critical_temperature_trips_the_zone :
    let s := zoned .hold (some (atSegment 2)) (put 0 (running .running))
    let t := after (.controlPeriod 0 (reads 381)) s
    (t.zone 0).state = .shutdown ∧ (t.zone 0).fan = 255 ∧ (t.record 0).fault = some .thermal := by decide +kernel

end Sys2Proof.Tests
end

section
/-! SUPPORT. What the shared operations on a slot make of it, as whole states: a life-state change (R3, R5), a grading
(R143), a placing by the bin map (R150), the spin-down wait (R117, R15), a start and autostart (R19, R20). Each is
brought to the slot replaced and the events offered, so that operations made one after the other fold into one. -/

namespace Sys2Proof.Machine

variable {s : State} {i : SlotId}

/-! ### One slot replaced -/

/-- The slot with a disposition written into its record (R21). -/
def Slot.disposed (x : Slot) (d : Disposition) : Slot := { x with record := { x.record with disposition := some d } }

@[simp] theorem State.setSlot_setSlot (s : State) (i : SlotId) (x y : Slot) :
    (s.setSlot i x).setSlot i y = s.setSlot i y := by
  simp [State.setSlot]

/-- An event offered before a slot is replaced is offered as well after it. -/
@[simp] theorem State.setSlot_offer (s : State) (i : SlotId) (x : Slot) (e : Event) :
    (s.offer e).setSlot i x = (s.setSlot i x).offer e := rfl

@[simp] theorem State.record_setSlot (s : State) (i : SlotId) (x : Slot) : (s.setSlot i x).record i = x.record := by
  simp [State.record]

@[simp] theorem State.setSlot_slots (s : State) (i : SlotId) (x : Slot) :
    (s.setSlot i x).slots = s.slotsWith i x := rfl

@[simp] theorem State.leaveDispatch_setSlot (s : State) (i j : SlotId) (x : Slot) :
    (s.setSlot j x).leaveDispatch i = (s.leaveDispatch i).setSlot j x := rfl
@[simp] theorem State.leaveDispatch_offer (s : State) (i : SlotId) (e : Event) :
    (s.offer e).leaveDispatch i = (s.leaveDispatch i).offer e := rfl

theorem State.setDisposition_eq (s : State) (i : SlotId) (d : Disposition) :
    s.setDisposition i d = s.setSlot i ((s.slot i).disposed d) := rfl

/-! ### Life-state changes and gradings -/

theorem LifeState.holdsRun_iff (l : LifeState) : l.holdsRun = true ↔ l = .active ∨ l = .parking := by
  cases l <;> decide

/-- A HELD or FAULTED slot is not ACTIVE. -/
theorem LifeState.ne_active_of_idle {l : LifeState} (h : l = .held ∨ l = .faulted) : l ≠ .active := by
  rcases h with rfl | rfl <;> decide

/-- A life-state change from another state than ACTIVE, where no snapshot can end (R3, R5). -/
theorem State.enter_eq (h : (s.record i).life ≠ .active) (entered : LifeState) (cause : SlotCause)
    (fault : Option FaultCause) (hold : Option HoldReason) :
    s.enter i entered cause fault hold =
      (s.setSlot i ((s.slot i).become entered fault hold)).offer (.slot i (s.record i).life entered cause) := by
  simp only [State.enter, if_neg h, LifeState.holdsRun_iff]
  rfl

/-- A life-state change with the record made fresh first, from another state than ACTIVE to one without a run (R2). -/
theorem State.enterFresh_eq (h : (s.record i).life ≠ .active) {entered : LifeState} (he : entered.holdsRun = false)
    (cause : SlotCause) (fault : Option FaultCause) :
    s.enterFresh i entered cause fault =
      (s.setSlot i ((s.slot i).freshAs entered fault)).offer (.slot i (s.record i).life entered cause) := by
  have hn : ¬(entered = .active ∨ entered = .parking) := by simp [← LifeState.holdsRun_iff, he]
  have hf : ((s.makeFresh i).record i).life = (s.record i).life := by
    simp [State.makeFresh, SlotRecord.fresh, State.record]
  rw [State.enterFresh, if_neg h, State.enter_eq (hf ▸ h), hf]
  simp [State.makeFresh, State.modSlot, Slot.become, Slot.freshAs, SlotRecord.fresh, hn]

theorem State.grade_eq (s : State) (i : SlotId) (forced : Option ForcedCause) :
    s.grade i forced = (s.setSlot i ((s.slot i).gradedBy s forced)).offer (s.gradedEvent i forced) := rfl

/-! ### Placing by the bin map -/

@[simp] theorem State.placed_setSlot (s : State) (i : SlotId) (x y : Slot) (cause : SlotCause) (reason : HoldReason) :
    (s.setSlot i y).placed i x cause reason = s.placed i x cause reason := by
  unfold State.placed
  simp [State.setSlot, State.slotsWith, State.destination]

/-- A slot outside ACTIVE is placed by the bin map of its grade (R150). -/
theorem State.placeByBin_eq (h : (s.record i).life ≠ .active) (cause : SlotCause) (reason : HoldReason) :
    s.placeByBin i cause reason = s.placed i (s.slot i) cause reason := by
  simp only [State.placeByBin, State.placed, State.enter_eq h, State.record]
  cases hg : (s.slot i).record.grade with
  | none => rfl
  | some g =>
    cases hd : s.destination g.bin with
    | hold => simp only [Option.map_some, hd]; rfl
    | lane l =>
      simp only [Option.map_some, hd, State.joinDispatch, State.record_offer, State.record_setSlot, Slot.become, hg]
      rfl

/-- A reply formed after a placing is formed as well before it. -/
theorem State.placed_reply (s : State) (q : Request) (i : SlotId) (x : Slot) (cause : SlotCause) (reason : HoldReason) :
    (s.placed i x cause reason).accept.reply q = (s.accept.reply q).placed i x cause reason := by
  simp only [State.placed, show (s.accept.reply q).destination = s.destination from rfl]
  split <;> rfl

/-! ### The spin-down wait -/

/-- The wait has run for a slot whose disposition is not HOLD (R15). -/
theorem State.spunDown_reject (h : (s.record i).life ≠ .active) (hd : (s.record i).disposition ≠ some .hold) :
    s.spunDown i = s.placed i (s.slot i) .spunDown .binHold := by
  rw [State.spunDown, if_neg hd, State.placeByBin_eq h]

/-- The wait still runs from the power-off time (R117). -/
theorem State.beginSpinDown_waits {t0 : Nat} (ht : (s.record i).powerOffAt = some t0)
    (h : s.now < t0 + s.settings.spinDownWait * 1000) :
    s.beginSpinDown i =
      s.setSlot i { s.slot i with
        run := { s.run i with stage := .spinDown, spinDown := some (t0 + s.settings.spinDownWait * 1000) } } := by
  simp only [State.beginSpinDown, ht, if_neg (Nat.not_le.2 h)]
  rfl

/-- The wait has run, or no power-off time is recorded: it is over at once (R117). -/
theorem State.beginSpinDown_over
    (h : (s.record i).powerOffAt = none ∨
      ∃ t0, (s.record i).powerOffAt = some t0 ∧ t0 + s.settings.spinDownWait * 1000 ≤ s.now) :
    s.beginSpinDown i =
      (s.setSlot i { s.slot i with run := { s.run i with stage := .spinDown } }).spunDown i := by
  rcases h with hn | ⟨t0, ht, h⟩
  · simp only [State.beginSpinDown, hn]
    rfl
  · simp only [State.beginSpinDown, ht, if_pos h]
    rfl

/-! ### Starts and autostart -/

/-- A run starts in a slot outside ACTIVE (R19, R28, R31). -/
theorem State.startRun_eq (h : (s.record i).life ≠ .active) (p : PlanId) (priority : Fin 4) (cause : SlotCause) :
    s.startRun i p priority cause = s.started i (s.slot i) p priority cause := by
  rw [State.startRun, State.enter_eq (by simpa [State.record] using h)]
  simp [State.joinAdmission, State.started, State.modRecord, State.modSlot, State.callAdmission, State.setLevel,
    State.level, Slot.become, State.record, State.power]

theorem State.startCheck_ok (hl : (s.record i).life = .seated) {p : PlanId} (hp : s.canRun i p) :
    s.startCheck i p.val Config.autostartPriority = .ok (p, 1) := by
  obtain ⟨hn, hz⟩ := hp
  simp [State.startCheck, Config.autostartPriority, hl, hn, hz]

theorem State.startCheck_error (hl : (s.record i).life = .seated) {p : PlanId} (hp : ¬ s.canRun i p) :
    s.startCheck i p.val Config.autostartPriority = .error .state := by
  by_cases hn : (s.planHead p).stepCount = 0
  · simp [State.startCheck, Config.autostartPriority, hl, hn]
  · have hz : (s.zone (bayOf i)).state = .shutdown := by simpa [State.canRun, hn] using hp
    simp [State.startCheck, Config.autostartPriority, hl, hn, hz]

/-- In RUN, with a plan named that can run, a SEATED slot's run starts (R20). -/
theorem State.considerAutostart_starts (hl : (s.record i).life = .seated) (hm : s.mode = .run) {p : PlanId}
    (ha : s.settings.autostart = some p) (hp : s.canRun i p) :
    s.considerAutostart i = s.started i (s.slot i) p 1 .autostarted := by
  simp only [State.considerAutostart, hm, ha, State.startCheck_ok hl hp]
  exact State.startRun_eq (by simp [hl]) p 1 .autostarted

/-- In SAFE, or with no plan named that can run, autostart leaves a SEATED slot as it is (R20). -/
theorem State.considerAutostart_idle (hl : (s.record i).life = .seated)
    (h : s.mode = .safe ∨ s.settings.autostart = none ∨
      ∃ p, s.settings.autostart = some p ∧ ¬ s.canRun i p) :
    s.considerAutostart i = s := by
  rcases h with hm | ha | ⟨p, ha, hp⟩
  · simp [State.considerAutostart, hm]
  · simp [State.considerAutostart, ha]
  · cases hm : s.mode with
    | run => simp [State.considerAutostart, hm, ha, State.startCheck_error hl hp]
    | safe => simp [State.considerAutostart, hm]

/-- A slot outside ACTIVE that becomes SEATED with a fresh record, autostart considered (R20, R23). -/
theorem State.seatedNow_enterFresh (h : (s.record i).life ≠ .active) (cause : SlotCause) :
    s.seatedNow i ((s.slot i).freshAs .seated) (s.record i).life cause
      ((s.enterFresh i .seated cause).considerAutostart i) := by
  rw [State.enterFresh_eq h rfl]
  have hl : (((s.setSlot i ((s.slot i).freshAs .seated)).offer (.slot i (s.record i).life .seated cause)).record
      i).life = .seated := by
    simp [Slot.freshAs, SlotRecord.fresh]
  refine ⟨fun p hm ha hp => ?_, fun hi => State.considerAutostart_idle hl hi⟩
  rw [State.considerAutostart_starts hl hm ha hp, State.slot_offer, State.slot_setSlot]
  rfl

/-- A reply formed after a slot has become SEATED is formed as well before it. -/
theorem State.seatedNow_reply {x : Slot} {left : LifeState} {cause : SlotCause} {t : State} (q : Request)
    (h : s.seatedNow i x left cause t) : (s.accept.reply q).seatedNow i x left cause (t.accept.reply q) := by
  obtain ⟨hs, hn⟩ := h
  refine ⟨fun p hm ha hp => ?_, fun hi => ?_⟩
  · rw [hs p hm ha hp]
    rfl
  · rw [hn hi]
    rfl

end Sys2Proof.Machine
end

section
/-! SUPPORT. The requests SLOT_ABORT, SLOT_RESTART and SLOT_SNAPSHOT (R21 to R23, R120): how a request that names a slot
is taken, and what an abort does outside a run, life state by life state. -/

namespace Sys2Proof.Machine

variable {s : State} {q : Request} {rest : List Request} {i : SlotId}

/-! ### Taking a request that names a slot -/

/-- The request at the head has left the input queue (R182). -/
def State.dequeued (s : State) (rest : List Request) : State := { s with cell := { s.cell with input := rest } }

theorem State.refuse_dequeued (s : State) (q : Request) (rest : List Request) (status : Status) :
    ((s.dequeued rest).refuse status).reply q = s.answered q rest status := rfl

/-- What SLOT_ABORT does on a slot, by the code of its disposition (R21, R196). -/
def State.abortCoded (s : State) (d : Byte) (i : SlotId) : Answer :=
  match dispositionOf d with
  | some x => s.abortSlot i x
  | none => s.refuse .range

/-- What SLOT_RESTART does on a slot (R23). -/
def State.restartSlot (s : State) (i : SlotId) : Answer :=
  if (s.record i).life = .held ∨ (s.record i).life = .faulted then
    ((s.enterFresh i .seated .restarted).considerAutostart i).accept
  else s.refuse .state

/-- What SLOT_SNAPSHOT does on a slot (R120). -/
def State.snapshotSlot (s : State) (i : SlotId) : Answer :=
  if (s.record i).life ≠ .active then s.refuse .state
  else if (s.record i).snapshot then s.refuse .inUse
  else (s.modRecord i fun r => { r with snapshot := true }).accept

/-- A request that names a slot in its first byte is taken, and acts on the slot named. -/
theorem State.takeRequest_slot {kind b : Byte} {takes : Byte → Bool} {fits : List Byte → Bool}
    {act : State → Request → SlotId → Answer} {onSlot : SlotId → Answer} (h : s.Heads kind q rest)
    (hk : takes kind = true) (hf : fits q.body = true) (hb : field q.body 0 = b)
    (ha : act (s.dequeued rest) q = onSlot) :
    s.takeRequest takes fits (fun t q => t.withSlot (field q.body 0) (act t q)) =
      (((s.dequeued rest).withSlot b onSlot).reply q).finish := by
  rw [State.takeRequest_head h hk, if_pos hf, hb, ← ha]
  rfl

theorem State.restartSlot_elsewhere (hh : (s.record i).life ≠ .held) (hf : (s.record i).life ≠ .faulted) :
    s.restartSlot i = s.refuse .state := if_neg (by simp [hh, hf])

theorem State.restartSlot_taken (h : (s.record i).life = .held ∨ (s.record i).life = .faulted) :
    s.restartSlot i = ((s.enterFresh i .seated .restarted).considerAutostart i).accept := if_pos h

theorem State.snapshotSlot_reply (s : State) (q : Request) (rest : List Request) (i : SlotId) :
    ((s.dequeued rest).snapshotSlot i).reply q =
      if (s.record i).life ≠ .active then s.answered q rest .state
      else if (s.record i).snapshot = true then s.answered q rest .inUse
      else
        { s.answered q rest .ok with
          slots := s.slotsWith i { s.slot i with record := { s.record i with snapshot := true } } } := by
  by_cases hl : (s.record i).life ≠ .active
  · rw [if_pos hl]
    exact congrArg (Answer.reply · q) (if_pos hl)
  · by_cases hs : (s.record i).snapshot = true
    · rw [if_neg hl, if_pos hs]
      exact congrArg (Answer.reply · q) ((if_neg hl).trans (if_pos hs))
    · rw [if_neg hl, if_neg hs]
      exact congrArg (Answer.reply · q) ((if_neg hl).trans (if_neg hs))

theorem exec_slotAbort_taken {b d : Byte} (h : s.Heads 0x11 q rest) (hq : q.body = [b, d]) :
    exec .slotAbort s = .next (((s.dequeued rest).withSlot b ((s.dequeued rest).abortCoded d)).reply q).finish :=
  congrArg _ (State.takeRequest_slot (act := fun t q => t.abortCoded (field q.body 1)) h rfl
    (by simp [hq, exactly]) (by simp [hq, field]) (by simp [hq, field]))

theorem exec_slotRestart_taken {b : Byte} (h : s.Heads 0x12 q rest) (hq : q.body = [b]) :
    exec .slotRestart s = .next (((s.dequeued rest).withSlot b (s.dequeued rest).restartSlot).reply q).finish :=
  congrArg _ (State.takeRequest_slot (act := fun t _ => t.restartSlot) h rfl (by simp [hq, exactly])
    (by simp [hq, field]) rfl)

theorem exec_slotSnapshot_taken {b : Byte} (h : s.Heads 0x14 q rest) (hq : q.body = [b]) :
    exec .slotSnapshot s = .next (((s.dequeued rest).withSlot b (s.dequeued rest).snapshotSlot).reply q).finish :=
  congrArg _ (State.takeRequest_slot (act := fun t _ => t.snapshotSlot) h rfl (by simp [hq, exactly])
    (by simp [hq, field]) rfl)

/-! ### SLOT_ABORT: its operands -/

theorem dispositionOf_zero {d : Byte} (h : d = 0) : dispositionOf d = some .hold := by subst h; rfl

theorem dispositionOf_one {d : Byte} (h : d = 1) : dispositionOf d = some .reject := by subst h; rfl

theorem dispositionOf_known {d : Byte} (h : d.toNat ≤ 1) : ∃ x, dispositionOf d = some x :=
  ⟨_, List.getElem?_eq_getElem (Nat.lt_succ_of_le h)⟩

theorem dispositionOf_unknown {d : Byte} (h : 1 < d.toNat) : dispositionOf d = none :=
  List.getElem?_eq_none h

/-- A slot beyond the shelf, or a code that is no disposition, is refused RANGE (R21). -/
theorem exec_slotAbort_range {b d : Byte} (h : s.Heads 0x11 q rest) (hq : q.body = [b, d])
    (hr : 24 ≤ b.toNat ∨ 1 < d.toNat) : exec .slotAbort s = .next (s.answered q rest .range).finish := by
  rw [exec_slotAbort_taken h hq]
  by_cases hb : b.toNat < 24
  · have hd := dispositionOf_unknown (hr.resolve_left (Nat.not_le.2 hb))
    rw [State.withSlot_in _ _ _ hb, State.abortCoded, hd]
    rfl
  · rw [State.withSlot_out _ _ _ (Nat.not_lt.1 hb)]
    rfl

/-- A SLOT_ABORT of a slot of the shelf, with a disposition, is answered as the abort of the slot answers. -/
theorem exec_slotAbort_answered {b d : Byte} {x : Disposition} {a : Answer} {t : State} (h : s.Heads 0x11 q rest)
    (hq : q.body = [b, d]) (hb : b.toNat < 24) (hd : dispositionOf d = some x)
    (ha : (s.dequeued rest).abortSlot ⟨b.toNat, hb⟩ x = a) (ht : a.reply q = t) :
    exec .slotAbort s = .next t.finish := by
  rw [exec_slotAbort_taken h hq, State.withSlot_in _ _ _ hb, State.abortCoded, hd, ← ht, ← ha]

/-- A SLOT_ABORT with either disposition, where the slot refuses both with one status. -/
theorem exec_slotAbort_refused {b d : Byte} {status : Status} (h : s.Heads 0x11 q rest) (hq : q.body = [b, d])
    (hb : b.toNat < 24) (hd : d.toNat ≤ 1)
    (hr : ∀ x, (s.dequeued rest).abortSlot ⟨b.toNat, hb⟩ x = (s.dequeued rest).refuse status) :
    exec .slotAbort s = .next (s.answered q rest status).finish := by
  obtain ⟨x, hx⟩ := dispositionOf_known hd
  exact exec_slotAbort_answered h hq hb hx (hr x) (State.refuse_dequeued s q rest status)

/-! ### SLOT_ABORT: the slot, by its life state -/

/-- Slot i with disposition REJECT, graded REJECT, FORCED ABORTED (R21). -/
def State.rejected (s : State) (i : SlotId) : Slot :=
  ((s.slot i).disposed .reject).gradedBy s (some .aborted)

@[simp] theorem State.rejected_life (s : State) (i : SlotId) : (s.rejected i).record.life = (s.record i).life := rfl
@[simp] theorem State.rejected_powerOffAt (s : State) (i : SlotId) :
    (s.rejected i).record.powerOffAt = (s.record i).powerOffAt := rfl
@[simp] theorem State.rejected_disposition (s : State) (i : SlotId) :
    (s.rejected i).record.disposition = some .reject := rfl
@[simp] theorem State.rejected_run (s : State) (i : SlotId) : (s.rejected i).run = (s.slot i).run := rfl

theorem State.gradeAborted_reject (s : State) (i : SlotId) :
    (s.setDisposition i .reject).gradeAborted i .reject =
      (s.setSlot i (s.rejected i)).offer (s.gradedEvent i (some .aborted)) := by
  simp only [State.gradeAborted, State.grade_eq, State.setDisposition_eq, State.setSlot_setSlot, State.slot_setSlot,
    State.gradedEvent, State.record_setSlot]
  rfl

theorem State.abortSlot_elsewhere (d : Disposition)
    (h : (s.record i).life = .empty ∨ (s.record i).life = .reserved ∨ (s.record i).life = .unloading) :
    s.abortSlot i d = s.refuse .state := by
  rcases h with h | h | h <;> simp only [State.abortSlot, h]

theorem State.abortSlot_seated_hold (h : (s.record i).life = .seated) :
    s.abortSlot i .hold =
      ((s.setSlot i (((s.slot i).disposed .hold).become .held none (some .aborted))).offer
        (.slot i .seated .held .aborted)).accept := by
  have hl : ((s.slot i).disposed .hold).record.life = .seated := h
  simp only [State.abortSlot, h, State.gradeAborted, State.abortPlace, State.setDisposition_eq]
  rw [State.enter_eq (by simp [hl])]
  simp [hl]

theorem State.abortSlot_seated_reject (h : (s.record i).life = .seated) :
    s.abortSlot i .reject =
      ((s.offer (s.gradedEvent i (some .aborted))).placed i (s.rejected i) .aborted .binHold).accept := by
  simp only [State.abortSlot, h, State.gradeAborted_reject, State.abortPlace]
  rw [State.placeByBin_eq (by simp [h]), ← State.setSlot_offer, State.placed_setSlot, State.slot_setSlot]

theorem State.abortSlot_parking_hold (h : (s.record i).life = .parking) :
    s.abortSlot i .hold = (s.setSlot i ((s.slot i).disposed .hold)).accept := by
  simp only [State.abortSlot, h]
  rfl

theorem State.abortSlot_parking_reject (h : (s.record i).life = .parking) :
    s.abortSlot i .reject = ((s.setSlot i (s.rejected i)).offer (s.gradedEvent i (some .aborted))).accept := by
  simp only [State.abortSlot, h, State.gradeAborted_reject]

/-- While its pick is offered, a DISPATCH slot is not aborted. -/
theorem State.abortSlot_offered (d : Disposition) (h : (s.record i).life = .dispatch) (ho : s.isOffered i = true) :
    s.abortSlot i d = s.refuse .inUse := by
  simp only [State.abortSlot, h, if_pos ho]

theorem State.abortSlot_dispatch_hold (h : (s.record i).life = .dispatch) (ho : s.isOffered i = false) :
    s.abortSlot i .hold =
      (((s.leaveDispatch i).setSlot i (((s.slot i).disposed .hold).become .held none (some .aborted))).offer
        (.slot i .dispatch .held .aborted)).accept := by
  have hl : ((s.slot i).disposed .hold).record.life = .dispatch := h
  simp only [State.abortSlot, h, ho, State.gradeAborted, State.setDisposition_eq]
  rw [State.enter_eq (by simp [hl])]
  simp [hl]

theorem State.abortSlot_dispatch_reject (h : (s.record i).life = .dispatch) (ho : s.isOffered i = false) :
    s.abortSlot i .reject =
      ((((s.leaveDispatch i).setSlot i ((s.rejected i).become .held none (some .aborted))).offer
        (s.gradedEvent i (some .aborted))).offer (.slot i .dispatch .held .aborted)).accept := by
  simp only [State.abortSlot, h, ho, State.gradeAborted_reject]
  rw [State.enter_eq (by simp [h])]
  simp [h]

theorem State.abortSlot_idle_hold (h : (s.record i).life = .held ∨ (s.record i).life = .faulted) :
    s.abortSlot i .hold = s.refuse .state := by
  rcases h with h | h <;> simp only [State.abortSlot, h]

/-! ### SLOT_ABORT with REJECT of a HELD or FAULTED slot (R22) -/

/-- A slot that enters PARKING with power phase OFF. -/
def Slot.parkedOff (x : Slot) : Slot :=
  ({ x with record := { x.record with powerPhase := some .off } } : Slot).become .parking

@[simp] theorem Slot.parkedOff_life (x : Slot) : x.parkedOff.record.life = .parking := rfl
@[simp] theorem Slot.parkedOff_powerOffAt (x : Slot) : x.parkedOff.record.powerOffAt = x.record.powerOffAt := rfl
@[simp] theorem Slot.parkedOff_disposition (x : Slot) : x.parkedOff.record.disposition = x.record.disposition := rfl
@[simp] theorem Slot.parkedOff_run (x : Slot) : x.parkedOff.run = x.run := rfl

theorem State.abortIdle_eq (h : (s.record i).life ≠ .active) :
    s.abortIdle i =
      ((s.setSlot i (s.slot i).parkedOff).offer (.slot i (s.record i).life .parking .aborted)).beginSpinDown i := by
  rw [State.abortIdle, State.enter_eq (by simpa using h)]
  simp only [State.modRecord, State.modSlot, State.slot_setSlot, State.setSlot_setSlot, State.record_setSlot]
  rfl

theorem State.abortIdle_waits {t0 : Nat} (h : (s.record i).life ≠ .active) (ht : (s.record i).powerOffAt = some t0)
    (hw : s.now < t0 + s.settings.spinDownWait * 1000) :
    s.abortIdle i =
      (s.setSlot i
        { (s.slot i).parkedOff with
          run := { s.run i with stage := .spinDown, spinDown := some (t0 + s.settings.spinDownWait * 1000) } }).offer
        (.slot i (s.record i).life .parking .aborted) := by
  rw [State.abortIdle_eq h, State.beginSpinDown_waits (t0 := t0) (by simpa [State.record] using ht) (by exact hw)]
  simp [State.run]

theorem State.abortIdle_over (h : (s.record i).life ≠ .active) (hd : (s.record i).disposition ≠ some .hold)
    (ho : (s.record i).powerOffAt = none ∨
      ∃ t0, (s.record i).powerOffAt = some t0 ∧ t0 + s.settings.spinDownWait * 1000 ≤ s.now) :
    s.abortIdle i =
      (s.offer (.slot i (s.record i).life .parking .aborted)).placed i
        { (s.slot i).parkedOff with run := { s.run i with stage := .spinDown } } .spunDown .binHold := by
  rw [State.abortIdle_eq h, State.beginSpinDown_over (by simpa [State.record] using ho),
    State.spunDown_reject (by simp) (by simpa [State.record] using hd), ← State.setSlot_offer]
  simp only [State.setSlot_setSlot, State.placed_setSlot, State.slot_setSlot, State.run, Slot.parkedOff_run]

theorem State.abortSlot_idle_reject (h : (s.record i).life = .held ∨ (s.record i).life = .faulted) :
    s.abortSlot i .reject =
      (((s.setSlot i (s.rejected i)).offer (s.gradedEvent i (some .aborted))).abortIdle i).accept := by
  rcases h with h | h <;> simp only [State.abortSlot, h, State.gradeAborted_reject]

/-- The spin-down wait still runs from the recorded power-off time. -/
theorem State.abortSlot_idle_waits {t0 : Nat} (h : (s.record i).life = .held ∨ (s.record i).life = .faulted)
    (ht : (s.record i).powerOffAt = some t0) (hw : s.now < t0 + s.settings.spinDownWait * 1000) :
    s.abortSlot i .reject =
      (((s.setSlot i
        { (s.rejected i).parkedOff with
          run := { s.run i with stage := .spinDown, spinDown := some (t0 + s.settings.spinDownWait * 1000) } }).offer
        (s.gradedEvent i (some .aborted))).offer (.slot i (s.record i).life .parking .aborted)).accept := by
  have hn := LifeState.ne_active_of_idle h
  rw [State.abortSlot_idle_reject h, State.abortIdle_waits (by simpa using hn) (by simpa using ht) (by exact hw)]
  simp [State.run]

/-- The spin-down wait has run, or no power-off time is recorded: the slot is placed in the same event. -/
theorem State.abortSlot_idle_over (h : (s.record i).life = .held ∨ (s.record i).life = .faulted)
    (ho : (s.record i).powerOffAt = none ∨
      ∃ t0, (s.record i).powerOffAt = some t0 ∧ t0 + s.settings.spinDownWait * 1000 ≤ s.now) :
    s.abortSlot i .reject =
      (((s.offer (s.gradedEvent i (some .aborted))).offer (.slot i (s.record i).life .parking .aborted)).placed i
        { (s.rejected i).parkedOff with run := { s.run i with stage := .spinDown } } .spunDown .binHold).accept := by
  have hn := LifeState.ne_active_of_idle h
  rw [State.abortSlot_idle_reject h, State.abortIdle_over (by simpa using hn) (by simp) (by simpa using ho),
    ← State.setSlot_offer, ← State.setSlot_offer, State.placed_setSlot]
  simp [State.run]

end Sys2Proof.Machine
end

section
/-! SUPPORT. The requests about slots settled: SLOT_ABORT outside a run, SLOT_RESTART and SLOT_SNAPSHOT. -/

namespace Sys2Proof.Machine

/-- Settles O30, by the disposition and the life state: each is one case of `State.abortSlot`. -/
theorem slotAbortOutsideARunActs : Obligations.SlotAbortOutsideARunActs := by
  unfold Obligations.SlotAbortOutsideARunActs
  refine ⟨fun s q rest b d h hq => ⟨exec_slotAbort_range h hq, fun hb => ?_⟩, fun s q rest b hb => ?_⟩
  · have hold {a : Answer} {t : State} (hd : d = 0) :=
      exec_slotAbort_answered (a := a) (t := t) h hq hb (dispositionOf_zero hd)
    have reject {a : Answer} {t : State} (hd : d = 1) :=
      exec_slotAbort_answered (a := a) (t := t) h hq hb (dispositionOf_one hd)
    refine ⟨fun hl hd => ?_, fun hl hd => ?_, fun hl hd => ?_, fun hl hd => ?_, fun hl hd => ?_, fun hl hd => ?_,
      fun hl ho hd => ?_, fun hl ho hd => ?_, fun hl ho hd => ?_⟩
    · exact exec_slotAbort_refused h hq hb hd fun x => State.abortSlot_elsewhere x hl
    · exact hold hd (State.abortSlot_idle_hold hl) rfl
    · exact hold hd (State.abortSlot_seated_hold hl) rfl
    · exact reject hd (State.abortSlot_seated_reject hl) (State.placed_reply _ _ _ _ _ _)
    · exact hold hd (State.abortSlot_parking_hold hl) rfl
    · exact reject hd (State.abortSlot_parking_reject hl) rfl
    · exact exec_slotAbort_refused h hq hb hd fun x => State.abortSlot_offered x hl ho
    · exact hold hd (State.abortSlot_dispatch_hold hl ho) rfl
    · exact reject hd (State.abortSlot_dispatch_reject hl ho) rfl
  · intro i h hq hl
    refine ⟨fun t0 ht hw => ?_, fun ho => ?_⟩
    · exact exec_slotAbort_answered h hq hb rfl (State.abortSlot_idle_waits hl ht hw) rfl
    · exact exec_slotAbort_answered h hq hb rfl (State.abortSlot_idle_over hl ho) (State.placed_reply _ _ _ _ _ _)

/-- Settles O32, by the life state; a SLOT_RESTART taken is a slot just SEATED, with autostart considered. -/
theorem slotRestartAndSnapshotAct : Obligations.SlotRestartAndSnapshotAct := by
  unfold Obligations.SlotRestartAndSnapshotAct
  refine ⟨fun s q rest b h hq => ⟨fun hb => ?_, fun hb => ⟨fun hh hf => ?_, fun hl => ?_⟩⟩,
    fun s q rest b h hq => ?_⟩
  · rw [exec_slotRestart_taken h hq, State.withSlot_out _ _ _ hb, State.refuse_dequeued]
  · rw [exec_slotRestart_taken h hq, State.withSlot_in _ _ _ hb,
      State.restartSlot_elsewhere (s := s.dequeued rest) hh hf, State.refuse_dequeued]
  · rw [exec_slotRestart_taken h hq, State.withSlot_in _ _ _ hb,
      State.restartSlot_taken (s := s.dequeued rest) hl]
    have hn := LifeState.ne_active_of_idle hl
    exact ⟨_, rfl, State.seatedNow_reply q (State.seatedNow_enterFresh (s := s.dequeued rest) hn .restarted)⟩
  · rw [exec_slotSnapshot_taken h hq]
    by_cases hb : b.toNat < 24
    · rw [State.withSlot_in _ _ _ hb, dif_pos hb, State.snapshotSlot_reply]
    · rw [State.withSlot_out _ _ _ (Nat.not_lt.1 hb), dif_neg hb, State.refuse_dequeued]

end Sys2Proof.Machine
end

section
/-! SUPPORT. What each function of a grading gives (R141, R142, R144, R145): RRATE as a rounding, the score as a sum
of terms, and each search as the first index that meets its condition. -/

namespace Sys2Proof.Machine

/-! ### RRATE (R141) -/

theorem rrateOf_eq_none_iff {R K : Nat} : rrateOf R K = none ↔ K = 0 := by simp [rrateOf]

theorem rrateOf_pos (R : Nat) {K : Nat} (hK : 0 < K) :
    rrateOf R K = some (min 65535 ((R * 2048 + K) / (2 * K))) := if_neg (Nat.ne_of_gt hK)

theorem rrateOf_eq_some_iff {R K v : Nat} :
    rrateOf R K = some v ↔ 0 < K ∧ min 65535 ((R * 2048 + K) / (2 * K)) = v := by
  simp [rrateOf, Nat.pos_iff_ne_zero]

theorem rrateOf_le {R K v : Nat} (h : rrateOf R K = some v) : v ≤ 65535 :=
  (rrateOf_eq_some_iff.1 h).2 ▸ Nat.min_le_left _ _

/-- Below its ceiling, RRATE is the integer nearest to retries per 2^20 sectors, a half up. -/
theorem rrateOf_nearest {R K v : Nat} (h : rrateOf R K = some v) (hv : v < 65535) :
    2 * v * K ≤ 2048 * R + K ∧ 2048 * R + K < 2 * (v + 1) * K := by
  obtain ⟨hK, hmin⟩ := rrateOf_eq_some_iff.1 h
  have hdiv : (R * 2048 + K) / (2 * K) = v := by omega
  have hlow : v * (2 * K) ≤ R * 2048 + K := hdiv ▸ Nat.div_mul_le_self _ _
  have hhigh : R * 2048 + K < (v + 1) * (2 * K) := (Nat.div_lt_iff_lt_mul (by omega)).1 (by omega)
  have hswap (n : Nat) : 2 * n * K = n * (2 * K) := by rw [Nat.mul_comm 2 n, Nat.mul_assoc]
  rw [hswap, hswap]
  omega

/-! ### The score (R142) -/

/-- The score's term of metric k. -/
def scoreTerm (t : Vector MetricEntry 6) (m : MetricRecord) (k : Fin 6) : Nat := metricTerm t[k.val] (m.value k)

theorem scoreOf_le (t : Vector MetricEntry 6) (m : MetricRecord) : scoreOf t m ≤ 65535 := Nat.min_le_left _ _

theorem scoreOf_eq (t : Vector MetricEntry 6) (m : MetricRecord) :
    scoreOf t m = min 65535 (scoreTerm t m 0 + scoreTerm t m 1 + scoreTerm t m 2 + scoreTerm t m 3 +
      scoreTerm t m 4 + scoreTerm t m 5) := by
  have hidx : List.finRange 6 = [0, 1, 2, 3, 4, 5] := rfl
  simp [scoreOf, scoreTerm, hidx, Nat.add_assoc]

/-! ### Searches in index order -/

theorem find?_finRange_eq_some_iff {n : Nat} {p : Fin n → Bool} {k : Fin n} :
    (List.finRange n).find? p = some k ↔ p k = true ∧ ∀ j < k, ¬ p j = true := by
  rw [List.find?_eq_some_iff_getElem]
  refine and_congr_right fun _ => ⟨?_, fun hbefore => ?_⟩
  · rintro ⟨i, hi, rfl, hbefore⟩ j hj
    simpa using hbefore j.val (by simpa [Fin.lt_def] using hj)
  · refine ⟨k.val, by simp, by simp, fun j hj => ?_⟩
    simpa using hbefore ⟨j, by omega⟩ hj

theorem find?_finRange_eq_none_iff {n : Nat} {p : Fin n → Bool} :
    (List.finRange n).find? p = none ↔ ∀ k, ¬ p k = true := by
  simp [List.find?_eq_none]

/-! ### The reject limits (R144 step 2) -/

section Limits

variable {t : Vector MetricEntry 6} {m : MetricRecord} {k : Fin 6}

/-- Metric k is present and above its reject limit. -/
def isOver (t : Vector MetricEntry 6) (m : MetricRecord) (k : Fin 6) : Bool :=
  (m.value k).any fun v => decide ((t[k.val]).rejectLimit < v)

theorem isOver_iff : isOver t m k = true ↔ ∃ v, m.value k = some v ∧ (t[k.val]).rejectLimit < v := by
  simp [isOver, Option.any_eq_true]

theorem not_isOver_iff : ¬ isOver t m k = true ↔ ∀ v, m.value k = some v → v ≤ (t[k.val]).rejectLimit := by
  simp [isOver_iff]

theorem overLimit_eq (t : Vector MetricEntry 6) (m : MetricRecord) :
    overLimit t m = (List.finRange 6).find? (isOver t m) :=
  congrArg (fun p => (List.finRange 6).find? p) (funext fun k => by unfold isOver; cases m.value k <;> rfl)

/-- The limit named is that of the first metric over its limit. -/
theorem overLimit_eq_some_iff :
    overLimit t m = some k ↔ (∃ v, m.value k = some v ∧ (t[k.val]).rejectLimit < v) ∧
      ∀ j : Fin 6, j < k → ∀ v, m.value j = some v → v ≤ (t[j.val]).rejectLimit := by
  simp only [overLimit_eq, find?_finRange_eq_some_iff, not_isOver_iff]
  rw [isOver_iff]

theorem overLimit_eq_none_iff :
    overLimit t m = none ↔ ∀ k : Fin 6, ∀ v, m.value k = some v → v ≤ (t[k.val]).rejectLimit := by
  simp only [overLimit_eq, find?_finRange_eq_none_iff, not_isOver_iff]

end Limits

/-! ### The grade table search (R145) -/

section Search

variable {t : Vector GradeEntry 8} {m : MetricRecord} {score : Nat} {e : GradeEntry} {k : Fin 8}

theorem GradeEntry.considers_iff : e.considers score = true ↔ e.enabled = true ∧ score ≤ e.ceiling := by
  simp [considers]

theorem requiredPresent_iff {required : BitVec 6} :
    requiredPresent required m = true ↔ ∀ j : Fin 6, required.getLsbD j.val = true → m.value j ≠ none := by
  have hpoint (a : Bool) (o : Option Nat) : (!a || o.isSome) = true ↔ (a = true → o ≠ none) := by
    cases a <;> cases o <;> simp
  simp only [requiredPresent, List.all_eq_true, List.mem_finRange, hpoint, true_implies]

/-- The entry gives its grade, where the search comes to it. -/
def GradeEntry.gives (e : GradeEntry) (m : MetricRecord) (score : Nat) : Bool :=
  e.considers score && requiredPresent e.required m

theorem GradeEntry.gives_iff :
    e.gives m score = true ↔ e.enabled = true ∧ score ≤ e.ceiling ∧
      ∀ j : Fin 6, e.required.getLsbD j.val = true → m.value j ≠ none := by
  rw [gives, Bool.and_eq_true, considers_iff, requiredPresent_iff, and_assoc]

theorem gradeSearch_of_some (h : ((List.finRange 8).find? fun g => (t[g.val]).gives m score) = some k) :
    gradeSearch t m score = (⟨k.val, by omega⟩, .scored) := by
  unfold GradeEntry.gives at h
  simp only [gradeSearch, h]

theorem gradeSearch_of_none (h : ∀ k : Fin 8, ¬ (t[k.val]).gives m score = true) :
    gradeSearch t m score =
      if ∃ k : Fin 8, (t[k.val]).enabled = true ∧ score ≤ (t[k.val]).ceiling then (binRetest, .absent)
      else (binReject, .noGrade) := by
  have hfind := find?_finRange_eq_none_iff.2 h
  unfold GradeEntry.gives at hfind
  simp only [gradeSearch, hfind, List.any_eq_true, List.mem_finRange, true_and, GradeEntry.considers_iff]

theorem gradeSearch_reason_ne_limit (j : Fin 6) : (gradeSearch t m score).2 ≠ .limit j := by
  unfold gradeSearch
  repeat' split
  all_goals exact nofun

/-- Grade k is given by the first entry that gives one. -/
theorem gradeSearch_scored_iff :
    ((gradeSearch t m score).1.val = k.val ∧ (gradeSearch t m score).2 = .scored) ↔
      (t[k.val]).gives m score = true ∧ ∀ j : Fin 8, j < k → ¬ (t[j.val]).gives m score = true := by
  refine Iff.trans ?_ (find?_finRange_eq_some_iff (p := fun g : Fin 8 => (t[g.val]).gives m score))
  cases hfind : (List.finRange 8).find? fun g => (t[g.val]).gives m score with
  | some g => simp [gradeSearch_of_some hfind, Fin.ext_iff]
  | none =>
    rw [gradeSearch_of_none (find?_finRange_eq_none_iff.1 hfind)]
    split <;> simp

end Search

/-! ### The decision (R144) -/

section Decision

variable {metrics : Vector MetricEntry 6} {grades : Vector GradeEntry 8} {m : MetricRecord} {score : Nat}

theorem gradeDecision_of_limit (hasIdentity : Bool) {k : Fin 6} (h : overLimit metrics m = some k) :
    gradeDecision metrics grades m hasIdentity none score = (binReject, .limit k) := by
  simp only [gradeDecision, h]

theorem gradeDecision_of_noId (h : overLimit metrics m = none) :
    gradeDecision metrics grades m false none score = (binRetest, .noId) := by
  simp only [gradeDecision, h, Bool.false_eq_true, if_false]

theorem gradeDecision_of_identity (h : overLimit metrics m = none) :
    gradeDecision metrics grades m true none score = gradeSearch grades m score := by
  simp only [gradeDecision, h, if_true]

/-- Only a metric over its limit decides LIMIT. -/
theorem gradeDecision_limit_iff {hasIdentity : Bool} {k : Fin 6} :
    (gradeDecision metrics grades m hasIdentity none score).2 = .limit k ↔ overLimit metrics m = some k := by
  cases hover : overLimit metrics m with
  | some j => simp [gradeDecision_of_limit hasIdentity hover]
  | none =>
    cases hasIdentity with
    | false => simp [gradeDecision_of_noId hover]
    | true => simp [gradeDecision_of_identity hover, gradeSearch_reason_ne_limit]

/-- A grading of a record decides over the metrics with RRATE set, by their score (R143). -/
theorem gradeOf_decides (r : SlotRecord) (forced : Option ForcedCause) :
    ((gradeOf metrics grades r forced).bin, (gradeOf metrics grades r forced).reason) =
      gradeDecision metrics grades r.metrics.graded r.identity.isSome forced
        (gradeOf metrics grades r forced).score := rfl

end Decision

end Sys2Proof.Machine
end

section
/-! SUPPORT. The Grading Unit settled: RRATE, the score, the decision and the grade table search. -/

namespace Sys2Proof.Machine

/-- Settles O60, by the order of the decision: a forced cause, a limit, a missing identity, the first entry that gives
its grade, and none. -/
theorem gradesFollowTheTables : Obligations.GradesFollowTheTables := by
  unfold Obligations.GradesFollowTheTables
  intro r metrics grades forced m g met term
  have hterm (k : Fin 6) : scoreTerm metrics m k = term k := by
    unfold scoreTerm term
    cases m.value k <;> rfl
  have hmet (k : Fin 8) : (grades[k.val]).gives m g.score = true ↔ met k := GradeEntry.gives_iff
  refine ⟨rrateOf_eq_none_iff, rrateOf_pos _, fun v hv => ⟨rrateOf_le hv, rrateOf_nearest hv⟩, scoreOf_le _ _, ?_,
    ?_, ?_⟩
  · simp only [← hterm]
    exact scoreOf_eq metrics m
  · rintro c rfl
    exact ⟨rfl, rfl⟩
  · rintro rfl
    have hd : (g.bin, g.reason) = gradeDecision metrics grades m r.identity.isSome none g.score :=
      gradeOf_decides r none
    refine ⟨fun k => gradeDecision_limit_iff.trans overLimit_eq_some_iff, fun k hk => ?_, fun hlim => ?_⟩
    · exact (Prod.mk.inj (hd.trans (gradeDecision_of_limit _ (gradeDecision_limit_iff.1 hk)))).1
    rw [← overLimit_eq_none_iff] at hlim
    refine ⟨fun hid => ?_, fun hid => ?_⟩
    · rw [hid, Option.isSome_none, gradeDecision_of_noId hlim] at hd
      exact Prod.mk.inj hd
    rw [Option.isSome_iff_ne_none.2 hid, gradeDecision_of_identity hlim] at hd
    refine ⟨fun k => ?_, fun hno => ?_⟩
    · simp only [← hmet]
      rw [← gradeSearch_scored_iff, ← hd]
    · rw [gradeSearch_of_none fun k hk => hno k ((hmet k).1 hk)] at hd
      split at hd
      · rw [if_pos ‹_›]
        exact Prod.mk.inj hd
      · rw [if_neg ‹_›]
        exact Prod.mk.inj hd

end Sys2Proof.Machine
end

section
/-! SUPPORT. The requests and messages about dispatch, lanes and the manifest (R154, R155, R158, R159, R163): what each
makes of the part, as a whole state, and that a reset keeps or clears the enable. -/

namespace Sys2Proof.Machine

variable {s : State} {q : Request} {rest : List Request} {b : Byte}

/-! ### Taking a request of one byte -/

/-- A request of one byte is taken, and acts by that byte (R182, R198). -/
theorem State.takeRequest_byte {kind : Byte} {takes : Byte → Bool} {act : State → Byte → Answer}
    (h : s.Heads kind q rest) (hk : takes kind = true) (hq : q.body = [b]) :
    s.takeRequest takes (exactly 1) (fun t q => act t (field q.body 0)) =
      ((act (s.dequeued rest) b).reply q).finish := by
  rw [State.takeRequest_head h hk, hq, if_pos (show exactly 1 [b] = true from rfl)]
  rfl

/-! ### A pick selection called for on a condition -/

/-- A pick selection called for where a condition holds raises the mark there, and leaves it elsewhere (R160). -/
theorem State.callPick_if (t : State) (p : Prop) [Decidable p] :
    (if p then t.callPick else t) = { t with pickDue := t.pickDue || decide p } := by
  by_cases hp : p <;> simp [hp, State.callPick]

/-! ### DISPATCH_ENABLE (R159) -/

/-- What DISPATCH_ENABLE does, by the code of its setting (R159, R196). -/
def State.dispatchCoded (s : State) (b : Byte) : Answer :=
  match execDispatchEnable.dispatchSetting b with
  | some on => (s.setDispatch on).accept
  | none => s.refuse .range

theorem exec_dispatchEnable_taken (h : s.Heads 0x28 q rest) (hq : q.body = [b]) :
    exec .dispatchEnable s = .next (((s.dequeued rest).dispatchCoded b).reply q).finish :=
  congrArg _ (State.takeRequest_byte (act := State.dispatchCoded) h rfl hq)

theorem dispatchSetting_unknown (h1 : b ≠ 1) (h0 : b ≠ 0) : execDispatchEnable.dispatchSetting b = none := by
  have hb : 2 ≤ b.toNat := by bv_omega
  exact List.getElem?_eq_none hb

theorem State.dispatchCoded_reply (s : State) (q : Request) (rest : List Request) (b : Byte) :
    ((s.dequeued rest).dispatchCoded b).reply q =
      if b = 1 then
        { s.answered q rest .ok with dispatch := { s.dispatch with enabled := true }, pickDue := true }
      else if b = 0 then { s.answered q rest .ok with dispatch := { s.dispatch with enabled := false } }
      else s.answered q rest .range := by
  by_cases h1 : b = 1
  · subst h1
    rfl
  · by_cases h0 : b = 0
    · subst h0
      rfl
    · rw [if_neg h1, if_neg h0, State.dispatchCoded, dispatchSetting_unknown h1 h0]
      rfl

/-- While the enable is clear no pick is offered (R161 condition 2). -/
theorem State.pickSelection_disabled (h : s.dispatch.enabled = false) : s.pickSelection = s :=
  s.pickSelection_none (by simp [State.mayPick, h])

/-! ### The enable over a reset (R164) -/

/-- Control periods made one after the other keep the enable: each keeps to its bay (R53). -/
theorem State.firstPeriods_enabled (s : State) (reads : Vector ZoneReads 4) :
    (s.firstPeriods reads).dispatch.enabled = s.dispatch.enabled :=
  List.foldlRecOn allBays (fun t z => t.periodNow z reads[z.val])
    (motive := fun t : State => t.dispatch.enabled = s.dispatch.enabled) rfl fun t ht z _ =>
      (congrArg Still.enabled (t.periodNow_inBay z reads[z.val]).still).trans ht

/-- Work on one slot after the other keeps the enable. -/
theorem State.forSlots_enabled (s : State) (l : List SlotId) {f : SlotId → State → State}
    (hf : ∀ i t, OnSlot i t (f i t)) : (s.forSlots l f).dispatch.enabled = s.dispatch.enabled :=
  List.foldlRecOn l (fun t i => f i t) (motive := fun t : State => t.dispatch.enabled = s.dispatch.enabled) rfl
    fun t ht i _ => (hf i t).enabled.trans ht

theorem State.autostartAll_enabled (s : State) : s.autostartAll.dispatch.enabled = s.dispatch.enabled := by
  unfold State.autostartAll
  refine s.forSlots_enabled allSlots fun i t => ?_
  split
  · exact t.considerAutostart_onSlot i
  · exact .refl i t

theorem State.warmReset_enabled (s : State) (cause : ResetCause) (reads : Vector ZoneReads 4) :
    (s.warmReset cause reads).dispatch.enabled = s.dispatch.enabled := by
  rw [State.warmReset, State.finish_enabled, State.autostartAll_enabled, State.firstPeriods_enabled]
  rfl

/-- Dispatch is disabled at power-on (R164). -/
theorem exec_powerOnReset_enabled {t : State} {reads : Vector ZoneReads 4}
    (h : exec (.powerOnReset reads) s = .next t) : t.dispatch.enabled = false := by
  rw [← Host.Outcome.next.inj h, State.finish_enabled, State.firstPeriods_enabled]
  rfl

/-- The enable survives a warm reset, and a warm reset that is not due changes nothing (R164, R195). -/
theorem exec_warmReset_enabled {t : State} {cause : ResetCause} {reads : Vector ZoneReads 4}
    (h : exec (.warmReset cause reads) s = .next t) : t.dispatch.enabled = s.dispatch.enabled := by
  cases cause with
  | line => exact Host.Outcome.next.inj h ▸ s.warmReset_enabled .line reads
  | request =>
    by_cases hd : s.cell.restart = .due
    · exact Host.Outcome.next.inj ((if_pos hd).symm.trans h) ▸ s.warmReset_enabled .request reads
    · rw [← Host.Outcome.next.inj ((if_neg hd).symm.trans h)]

/-! ### DISPATCH_WITHDRAW (R158) -/

theorem exec_dispatchWithdraw_taken (h : s.Heads 0x29 q rest) (hq : q.body = [b]) :
    exec .dispatchWithdraw s = .next (((s.dequeued rest).withSlot b (s.dequeued rest).withdraw).reply q).finish :=
  congrArg _ (State.takeRequest_byte (act := fun t b => t.withSlot b t.withdraw) h rfl hq)

/-- A slot in DISPATCH withdrawn: its entry leaves the queue, and it is HELD (R17, R157). -/
theorem State.leaveDispatch_enter_held {i : SlotId} (h : (s.record i).life = .dispatch) :
    (s.leaveDispatch i).enter i .held .withdrawn none (some .withdrawn) =
      ((s.leaveDispatch i).setSlot i ((s.slot i).become .held none (some .withdrawn))).offer
        (.slot i .dispatch .held .withdrawn) := by
  have hl : ((s.leaveDispatch i).record i).life = .dispatch := h
  rw [State.enter_eq (by simp [hl]), hl]
  rfl

theorem State.withdraw_reply (s : State) (q : Request) (rest : List Request) (i : SlotId) :
    ((s.dequeued rest).withdraw i).reply q =
      if (s.record i).life ≠ .dispatch then s.answered q rest .state
      else if s.isOffered i = true then s.answered q rest .inUse
      else
        { s.answered q rest .ok with
          slots := s.slotsWith i ((s.slot i).become .held none (some .withdrawn))
          dispatch := { s.dispatch with queue := s.dispatch.queue.filter fun e => e.slot != i }
          events := s.events.offer (.slot i .dispatch .held .withdrawn) } := by
  by_cases hl : (s.record i).life = .dispatch
  · rw [if_neg (not_not_intro hl)]
    by_cases ho : s.isOffered i = true
    · rw [if_pos ho]
      exact congrArg (Answer.reply · q) ((if_neg (not_not_intro hl)).trans (if_pos ho))
    · rw [if_neg ho]
      refine (congrArg (Answer.reply · q) ((if_neg (not_not_intro hl)).trans (if_neg ho))).trans ?_
      rw [State.leaveDispatch_enter_held (s := s.dequeued rest) hl]
      rfl
  · rw [if_pos hl]
    exact congrArg (Answer.reply · q) (if_pos hl)

/-! ### Lanes (R152 to R155) -/

theorem Lane.byCount_eq_open_iff {x : Lane} : x.byCount = .open ↔ x.count < x.capacity := by
  unfold Lane.byCount
  split <;> simp [*]

/-- A lane replaced, with its LANE event (R152). -/
theorem State.setLane_laneEvent (s : State) (l : LaneId) (y : Lane) (cause : LaneCause) (left : LaneState) :
    (s.setLane l y).laneEvent l cause left =
      { s with lanes := s.lanes.set l.val y, events := s.events.offer (.lane l cause left y) } := by
  rw [State.laneEvent, State.lane_setLane]
  rfl

/-- A lane becomes CLOSED, by LANE_CLOSE or TOTE_OUT (R154, R155). -/
theorem State.closeLane_eq (s : State) (l : LaneId) (cause : LaneCause) :
    s.closeLane l cause =
      if (s.lane l).state = .closed then s
      else
        { s with
          lanes := s.lanes.set l.val { s.lane l with state := .closed }
          events := s.events.offer (.lane l cause (s.lane l).state { s.lane l with state := .closed }) } := by
  rw [State.closeLane, State.setLane_laneEvent]

/-- A CLOSED lane is opened by its count (R152, R155). -/
theorem State.laneOpen_eq (s : State) (l : LaneId) :
    s.laneOpen l =
      if (s.lane l).state ≠ .closed then s
      else
        let y : Lane := { s.lane l with state := (s.lane l).byCount }
        { s with
          lanes := s.lanes.set l.val y
          events := s.events.offer (.lane l .opened .closed y)
          pickDue := s.pickDue || decide ((s.lane l).count < (s.lane l).capacity) } := by
  by_cases hc : (s.lane l).state = .closed
  · simp only [State.laneOpen, if_pos hc, if_neg (not_not_intro hc), Lane.byCount_eq_open_iff, State.callPick_if,
      State.setLane_laneEvent]
  · simp only [State.laneOpen, if_neg hc, if_pos hc]

/-- A tote set down (R154). -/
theorem State.toteIn_eq (s : State) (l : LaneId) :
    s.toteIn l =
      let y : Lane :=
        { s.lane l with count := 0, toteSequence := ((s.lane l).toteSequence + 1) % 65536, state := .open }
      { s with
        lanes := s.lanes.set l.val y
        events := s.events.offer (.lane l .toteIn (s.lane l).state y)
        pickDue := true } := by
  rw [State.toteIn, State.setLane_laneEvent]
  rfl

/-- The lane after a capacity is written: CLOSED stays, another takes the state its count gives (R153). -/
theorem Lane.withCapacity_eq (x : Lane) (c : Nat) :
    x.withCapacity c =
      { x with
        capacity := c
        state := if x.state = .closed then .closed else if x.count < c then .open else .full } := by
  by_cases hc : x.state = .closed
  · simp [Lane.withCapacity, hc]
  · simp [Lane.withCapacity, hc, Lane.byCount]

/-- A capacity stored, y the lane after it (R153). -/
theorem State.storeCapacity_eq {s : State} {l : LaneId} {v : Nat} {y : Lane}
    (hy : (s.lane l).withCapacity (laneCapacity (s.laneFloor l) v) = y) :
    s.storeCapacity l v =
      if y.state = (s.lane l).state then { s with lanes := s.lanes.set l.val y }
      else
        { s with
          lanes := s.lanes.set l.val y
          events := s.events.offer (.lane l .capacity (s.lane l).state y)
          pickDue := s.pickDue || decide (y.state = .open) } := by
  simp only [State.storeCapacity, hy, State.callPick_if, State.setLane_laneEvent]
  rfl

/-- An entry of LANE is the lane's capacity (R153, Table 11-5). -/
theorem State.storeEntry_lane (s : State) (l : LaneId) (b : Byte) :
    s.storeEntry .lane l.val [b] =
      (s.storeCapacity l b.toNat, decide (laneCapacity (s.laneFloor l) b.toNat ≠ b.toNat)) := by
  have hl : Fin.ofNat 6 l.val = l := Fin.ext (Nat.mod_eq_of_lt l.isLt)
  have hv : (field [b] 0).toNat = b.toNat := rfl
  rw [State.storeEntry, hl, hv]
  exact Prod.ext rfl (by rw [Bool.eq_iff_iff]; simp)

theorem exec_laneOpen_taken (h : s.Heads 0x2A q rest) (hq : q.body = [b]) :
    exec .laneOpen s =
      .next (((s.dequeued rest).withLane b fun l => ((s.dequeued rest).laneOpen l).accept).reply q).finish :=
  congrArg _ (State.takeRequest_byte (act := fun t b => t.withLane b fun l => (t.laneOpen l).accept) h rfl hq)

theorem exec_laneClose_taken (h : s.Heads 0x2B q rest) (hq : q.body = [b]) :
    exec .laneClose s =
      .next (((s.dequeued rest).withLane b fun l => ((s.dequeued rest).closeLane l .closed).accept).reply q).finish :=
  congrArg _ (State.takeRequest_byte (act := fun t b => t.withLane b fun l => (t.closeLane l .closed).accept) h rfl hq)

theorem State.laneOpen_reply (s : State) (q : Request) (rest : List Request) (l : LaneId) :
    ((s.dequeued rest).laneOpen l).accept.reply q =
      if (s.lane l).state ≠ .closed then s.answered q rest .ok
      else
        let y : Lane := { s.lane l with state := (s.lane l).byCount }
        { s.answered q rest .ok with
          lanes := s.lanes.set l.val y
          events := s.events.offer (.lane l .opened .closed y)
          pickDue := s.pickDue || decide ((s.lane l).count < (s.lane l).capacity) } := by
  rw [State.laneOpen_eq]
  exact apply_ite (fun t : State => t.accept.reply q) _ _ _

theorem State.closeLane_reply (s : State) (q : Request) (rest : List Request) (l : LaneId) (cause : LaneCause) :
    ((s.dequeued rest).closeLane l cause).accept.reply q =
      if (s.lane l).state = .closed then s.answered q rest .ok
      else
        { s.answered q rest .ok with
          lanes := s.lanes.set l.val { s.lane l with state := .closed }
          events := s.events.offer (.lane l cause (s.lane l).state { s.lane l with state := .closed }) } := by
  rw [State.closeLane_eq]
  exact apply_ite (fun t : State => t.accept.reply q) _ _ _

/-! ### Messages about a lane (R167) -/

theorem State.laneMessage_in (s : State) (kind tag lane : Byte) (act : LaneId → State → State)
    (h : lane.toNat < 6) :
    s.laneMessage kind tag lane act = (act ⟨lane.toNat, h⟩ (s.tells (.ack kind tag))).finish :=
  congrArg State.finish (dif_pos h)

theorem State.laneMessage_out (s : State) (kind tag lane : Byte) (act : LaneId → State → State)
    (h : ¬ lane.toNat < 6) : s.laneMessage kind tag lane act = (s.tells (.nak kind .range tag)).finish :=
  congrArg State.finish (dif_neg h)

theorem exec_toteOut_eq (s : State) (tag lane : Byte) :
    exec (.toteOut tag lane) s = .next (s.laneMessage 0x47 tag lane fun l t => t.closeLane l .toteOut) := rfl

theorem exec_toteIn_eq (s : State) (tag lane : Byte) :
    exec (.toteIn tag lane) s = .next (s.laneMessage 0x46 tag lane fun l t => t.toteIn l) := rfl

@[simp] theorem State.lane_tells (s : State) (f : HandlerFrame) (l : LaneId) : (s.tells f).lane l = s.lane l := rfl

/-! ### MANIFEST_TAKE (R163) -/

theorem exec_manifestTake_taken (h : s.Heads 0x2C q rest) (hq : q.body = [b]) :
    exec .manifestTake s = .next (((s.dequeued rest).manifestTake b.toNat).reply q).finish :=
  congrArg _ (State.takeRequest_byte (act := fun t b => t.manifestTake b.toNat) h rfl hq)

theorem State.manifestTake_range {n : Nat} (hn : 48 < n) (s : State) (q : Request) (rest : List Request) :
    ((s.dequeued rest).manifestTake n).reply q = s.answered q rest .range := congrArg (Answer.reply · q) (if_pos hn)

/-- A take within range removes and answers the first k records, k the fewest of n, the records held and six. -/
theorem State.manifestTake_eq {n : Nat} (hn : ¬ 48 < n) (s : State) :
    let m := s.dispatch.manifest
    let k := min n (min m.length 6)
    s.manifestTake n =
      State.accept { s with
        dispatch := { s.dispatch with manifest := m.drop k }
        pickDue := s.pickDue || decide (0 < k) } (manifestBody (m.take k) (m.length - k) s.dispatch.nextRecord) := by
  intro m k
  have htake : m.take (min n 6) = m.take k := List.take_eq_take_iff.2 (by omega)
  have hdrop : m.drop (min n 6) = m.drop k := List.drop_eq_drop_iff.2 (by omega)
  have htaken : (m.take k).isEmpty = true ↔ ¬ 0 < k := by
    rw [List.isEmpty_iff, ← List.length_eq_zero_iff, List.length_take]
    omega
  have hm : s.dispatch.manifest = m := rfl
  refine (if_neg hn).trans ?_
  simp only [Config.takeMax, hm, htake, hdrop, htaken, ite_not, State.callPick_if, List.length_drop]

end Sys2Proof.Machine
end

section
/-! SUPPORT. Dispatch, lanes and the manifest settled: DISPATCH_ENABLE and DISPATCH_WITHDRAW, LANE_OPEN, LANE_CLOSE and
a capacity written, TOTE_IN and TOTE_OUT, MANIFEST_TAKE. -/

namespace Sys2Proof.Machine

/-- Settles O35, by the code of the setting, the work each reset does, and the checks of a withdrawal in order. -/
theorem dispatchRequestsEnableAndWithdraw : Obligations.DispatchRequestsEnableAndWithdraw := by
  unfold Obligations.DispatchRequestsEnableAndWithdraw
  refine ⟨⟨fun s q rest b h hq => ?_, fun _ => State.pickSelection_disabled, fun _ _ _ => exec_powerOnReset_enabled,
    fun _ _ _ _ => exec_warmReset_enabled⟩, fun s q rest b h hq => ?_⟩
  · rw [exec_dispatchEnable_taken h hq, State.dispatchCoded_reply]
  · rw [exec_dispatchWithdraw_taken h hq]
    by_cases hb : b.toNat < 24
    · rw [State.withSlot_in _ _ _ hb, dif_pos hb, State.withdraw_reply]
    · rw [State.withSlot_out _ _ _ (Nat.not_lt.1 hb), dif_neg hb, State.refuse_dequeued]

/-- Settles O36: a lane closed, a lane opened by its count, and a capacity stored, each as a whole state. -/
theorem lanesOpenCloseAndTakeCapacity : Obligations.LanesOpenCloseAndTakeCapacity := by
  unfold Obligations.LanesOpenCloseAndTakeCapacity
  refine ⟨fun s q rest b hq => ⟨fun h => ?_, fun h => ?_⟩, fun s l b => ?_⟩
  · rw [exec_laneClose_taken h hq]
    by_cases hb : b.toNat < 6
    · rw [State.withLane_in _ _ _ hb, dif_pos hb, State.closeLane_reply]
    · rw [State.withLane_out _ _ _ (Nat.not_lt.1 hb), dif_neg hb, State.refuse_dequeued]
  · rw [exec_laneOpen_taken h hq]
    by_cases hb : b.toNat < 6
    · rw [State.withLane_in _ _ _ hb, dif_pos hb, State.laneOpen_reply]
      rfl
    · rw [State.withLane_out _ _ _ (Nat.not_lt.1 hb), dif_neg hb, State.refuse_dequeued]
  · intro x c y
    rw [State.storeEntry_lane, State.storeCapacity_eq (Lane.withCapacity_eq x c)]
    rfl

/-- Settles O37: within the six lanes a lane closed or a tote set down after the ACK, beyond them a NAK. -/
theorem totesComeAndGo : Obligations.TotesComeAndGo := by
  unfold Obligations.TotesComeAndGo
  refine fun s tag b => ⟨?_, ?_⟩
  · rw [exec_toteOut_eq]
    by_cases hb : b.toNat < 6
    · rw [State.laneMessage_in _ _ _ _ _ hb, dif_pos hb, State.closeLane_eq, State.lane_tells]
      rfl
    · rw [State.laneMessage_out _ _ _ _ _ hb, dif_neg hb]
  · rw [exec_toteIn_eq]
    by_cases hb : b.toNat < 6
    · rw [State.laneMessage_in _ _ _ _ _ hb, dif_pos hb, State.toteIn_eq, State.lane_tells]
      rfl
    · rw [State.laneMessage_out _ _ _ _ _ hb, dif_neg hb]

/-- Settles O38: above 48 a refusal, else the first k records removed and answered. -/
theorem manifestTakeRemovesTheOldest : Obligations.ManifestTakeRemovesTheOldest := by
  unfold Obligations.ManifestTakeRemovesTheOldest
  intro s q rest b h hq m k
  rw [exec_manifestTake_taken h hq]
  by_cases hb : 48 < b.toNat
  · rw [if_pos hb, State.manifestTake_range hb]
  · rw [if_neg hb, State.manifestTake_eq hb]
    rfl

end Sys2Proof.Machine
end

section
/-! SUPPORT. The transfer record and the requests that settle it (R162, R166, R174, R175): a transfer moved, a drive
booked and a slot that leaves UNLOADING, as whole states; and what HANDLER_RESUME and TRANSFER_CONFIRM answer. -/

namespace Sys2Proof.Machine

variable {s : State} {q : Request} {rest : List Request} {b : Byte} {i : SlotId} {l : LaneId} {start : Nat}

/-! ### A transfer moved, a drive booked, a slot left -/

theorem State.moveTransfer_eq (s : State) (entered : Transfer) (timer : Option Nat) (cause : TransferCause) :
    s.moveTransfer entered timer cause = s.moved entered timer cause := rfl

/-- The lane's count raised by a booking, FULL where that brings an OPEN lane to its capacity (R162 step 1). -/
theorem State.raiseCount_eq (s : State) (l : LaneId) :
    s.raiseCount l =
      let x := s.lane l
      let full := x.state = .open ∧ x.capacity ≤ x.count + 1
      let y : Lane := { x with count := x.count + 1, state := if full then .full else x.state }
      { s with
        lanes := s.lanes.set l.val y
        events := if full then s.events.offer (.lane l .full .open y) else s.events } := by
  by_cases hf : (s.lane l).state = .open ∧ (s.lane l).capacity ≤ (s.lane l).count + 1
  · obtain ⟨hopen, hfull⟩ := hf
    simp [State.raiseCount, State.setLane_laneEvent, hopen, hfull]
  · simp only [State.raiseCount, if_neg hf]
    rfl

/-- The manifest record of a booking, formed after the count is raised (R162 step 2). -/
theorem State.manifestRecord_raiseCount (s : State) (i : SlotId) (l : LaneId) (confirmed : Bool) :
    (s.raiseCount l).manifestRecord i l confirmed =
      let g := (s.record i).grade.getD { bin := binReject, score := 0, reason := .noGrade }
      { number := s.dispatch.nextRecord, slot := i, identity := (s.record i).identity, bin := g.bin, score := g.score,
        reason := g.reason, lane := l, toteSequence := (s.lane l).toteSequence, place := (s.lane l).count + 1,
        confirmed } := by
  rw [State.raiseCount_eq]
  simp [State.manifestRecord, State.lane, State.record, State.slot]

theorem State.book_eq (s : State) (i : SlotId) (l : LaneId) (confirmed : Bool) :
    s.book i l confirmed = s.booked i l confirmed := by
  simp only [State.book, State.manifestRecord_raiseCount]
  by_cases hm : s.dispatch.manifest.length = 47
  · simp [State.raiseCount_eq, State.booked, nextRecordNumber, Config.manifestDepth, State.offer, hm]
  · simp [State.raiseCount_eq, State.booked, nextRecordNumber, Config.manifestDepth, hm]

@[simp] theorem State.record_booked (s : State) (i j : SlotId) (l : LaneId) (confirmed : Bool) :
    (s.booked i l confirmed).record j = s.record j := rfl

/-- A slot outside ACTIVE leaves UNLOADING: EMPTY, or FAULTED where a drive is seen (R17, R9). -/
theorem State.leaveUnloading_eq (h : (s.record i).life ≠ .active) (cause : SlotCause) :
    s.leaveUnloading i cause = s.left i cause := by
  unfold State.leaveUnloading State.left
  split
  · exact State.enterFresh_eq h rfl _ _
  · exact State.enterFresh_eq h rfl _ _

/-! ### A reply formed after the work is formed as well before it -/

theorem State.booked_reply (s : State) (q : Request) (i : SlotId) (l : LaneId) (confirmed : Bool) :
    (s.booked i l confirmed).accept.reply q = (s.accept.reply q).booked i l confirmed := rfl

theorem State.left_reply (s : State) (q : Request) (i : SlotId) (cause : SlotCause) :
    (s.left i cause).accept.reply q = (s.accept.reply q).left i cause :=
  apply_ite (fun t : State => t.accept.reply q) _ _ _

theorem State.accept_dequeued (s : State) (q : Request) (rest : List Request) :
    (s.dequeued rest).accept.reply q = s.answered q rest .ok := rfl

/-! ### HANDLER_RESUME (R174) -/

theorem exec_handlerResume_taken (h : s.Heads 0x30 q rest) (hq : q.body = []) :
    exec .handlerResume s = .next (((s.dequeued rest).handlerResume).reply q).finish := by
  refine congrArg _ ((State.takeRequest_head h rfl).trans ?_)
  rw [hq, if_pos (show exactly 0 [] = true from rfl)]
  rfl

theorem State.handlerResume_reply (s : State) (q : Request) (rest : List Request) :
    (s.dequeued rest).handlerResume.reply q =
      if s.handler.transfer.state = .awaitingConfirm then s.answered q rest .state
      else if s.dispatch.stall = none then s.answered q rest .ok
      else { s.answered q rest .ok with dispatch := { s.dispatch with stall := none }, pickDue := true } := by
  by_cases ha : s.handler.transfer.state = .awaitingConfirm
  · rw [if_pos ha]
    exact congrArg (Answer.reply · q) (if_pos ha)
  · rw [if_neg ha]
    refine (congrArg (Answer.reply · q) (if_neg ha)).trans ?_
    by_cases hs : s.dispatch.stall = none
    · rw [if_pos hs]
      exact congrArg (Answer.reply · q) (if_neg (by simp [State.dequeued, hs]))
    · rw [if_neg hs]
      exact congrArg (Answer.reply · q) (if_pos (Option.isSome_iff_ne_none.2 hs))

/-! ### TRANSFER_CONFIRM (R175) -/

/-- What TRANSFER_CONFIRM does, by the code of its outcome (R175, R196). -/
def State.confirmCoded (s : State) (b : Byte) : Answer :=
  match outcomeOf b with
  | some o => s.transferConfirm o
  | none => s.refuse .range

theorem exec_transferConfirm_taken (h : s.Heads 0x31 q rest) (hq : q.body = [b]) :
    exec .transferConfirm s = .next (((s.dequeued rest).confirmCoded b).reply q).finish :=
  congrArg _ (State.takeRequest_byte (act := State.confirmCoded) h rfl hq)

theorem outcomeOf_unknown (h : 2 < b.toNat) : outcomeOf b = none := List.getElem?_eq_none h

theorem outcomeOf_known (h : b.toNat ≤ 2) : ∃ o, outcomeOf b = some o :=
  ⟨_, List.getElem?_eq_getElem (Nat.lt_succ_of_le h)⟩

theorem State.confirmCoded_zero (s : State) : s.confirmCoded 0 = s.transferConfirm .inTote := rfl
theorem State.confirmCoded_one (s : State) : s.confirmCoded 1 = s.transferConfirm .inSlot := rfl
theorem State.confirmCoded_two (s : State) : s.confirmCoded 2 = s.transferConfirm .lost := rfl

theorem State.confirmCoded_unknown (h : 2 < b.toNat) : s.confirmCoded b = s.refuse .range := by
  rw [State.confirmCoded, outcomeOf_unknown h]

/-- No confirmation is awaited (R175 check 2). -/
theorem State.transferConfirm_elsewhere (h : s.handler.transfer.state ≠ .awaitingConfirm) (o : ConfirmOutcome) :
    s.transferConfirm o = s.refuse .state := by
  unfold State.transferConfirm
  split
  · next ht => exact absurd (congrArg Transfer.state ht) h
  · rfl

theorem State.confirmCoded_elsewhere (hb : b.toNat ≤ 2) (h : s.handler.transfer.state ≠ .awaitingConfirm) :
    s.confirmCoded b = s.refuse .state := by
  obtain ⟨o, ho⟩ := outcomeOf_known hb
  rw [State.confirmCoded, ho]
  exact State.transferConfirm_elsewhere h o

/-- A pick that awaits its confirmation: refused where the slot's presence speaks against the outcome, else settled by
the outcome, the record IDLE (R175). -/
theorem State.transferConfirm_reply (h : s.handler.transfer = .pick .awaitingConfirm i l start) (o : ConfirmOutcome) :
    ((s.dequeued rest).transferConfirm o).reply q =
      if o.contradicts (s.record i).presence = true then s.answered q rest .state
      else (((s.dequeued rest).confirmPick i l o).accept.reply q).moved .idle none (.confirmed o) := by
  have ht : (s.dequeued rest).handler.transfer = .pick .awaitingConfirm i l start := h
  simp only [State.transferConfirm, ht, State.moveTransfer_eq]
  exact apply_ite (Answer.reply · q) _ _ _

theorem ConfirmOutcome.inTote_contradicts (p : Presence) :
    ConfirmOutcome.inTote.contradicts p = true ↔ p = .present := by
  cases p <;> decide

theorem ConfirmOutcome.inSlot_contradicts (p : Presence) :
    ConfirmOutcome.inSlot.contradicts p = true ↔ p = .absent := by
  cases p <;> decide

/-- No presence speaks against LOST. -/
theorem ConfirmOutcome.lost_contradicts (p : Presence) : ConfirmOutcome.lost.contradicts p = false := rfl

/-- The drive is in the tote: booked with its confirmed mark, and the slot left. -/
theorem State.confirmPick_inTote_reply (h : (s.record i).life ≠ .active) :
    ((s.dequeued rest).confirmPick i l .inTote).accept.reply q =
      ((s.answered q rest .ok).booked i l true).left i .confirmed := by
  rw [State.confirmPick, State.book_eq, State.leaveUnloading_eq (by rwa [State.record_booked]), State.left_reply,
    State.booked_reply, State.accept_dequeued]

/-- The drive is back in its slot, which goes where the bin map says. -/
theorem State.confirmPick_inSlot_reply (h : (s.record i).life ≠ .active) :
    ((s.dequeued rest).confirmPick i l .inSlot).accept.reply q =
      (s.answered q rest .ok).placed i (s.slot i) .confirmed .confirmedBack := by
  rw [State.confirmPick, State.placeByBin_eq (s := s.dequeued rest) h, State.placed_reply, State.accept_dequeued]
  rfl

/-- The drive is lost: the slot is left, and nothing booked. -/
theorem State.confirmPick_lost_reply (h : (s.record i).life ≠ .active) :
    ((s.dequeued rest).confirmPick i l .lost).accept.reply q = (s.answered q rest .ok).left i .confirmed := by
  rw [State.confirmPick, State.leaveUnloading_eq (s := s.dequeued rest) h, State.left_reply, State.accept_dequeued]

end Sys2Proof.Machine
end

section
/-! SUPPORT. Stalls and carries settled by the host: HANDLER_RESUME and TRANSFER_CONFIRM. -/

namespace Sys2Proof.Machine

/-- Settles O39, by the checks of each request in order and the three outcomes of a confirmation, each as a whole
state. -/
theorem stallsAndCarriesAreSettledByTheHost : Obligations.StallsAndCarriesAreSettledByTheHost := by
  unfold Obligations.StallsAndCarriesAreSettledByTheHost
  refine ⟨fun s q rest h hq => ?_, fun s q rest b h hq => ⟨fun hb => ?_, fun hb hs => ?_,
    fun i l start ht hl _ => ?_⟩⟩
  · rw [exec_handlerResume_taken h hq, State.handlerResume_reply]
  · rw [exec_transferConfirm_taken h hq, State.confirmCoded_unknown hb, State.refuse_dequeued]
  · rw [exec_transferConfirm_taken h hq, State.confirmCoded_elsewhere (s := s.dequeued rest) hb hs,
      State.refuse_dequeued]
  · have hn : (s.record i).life ≠ .active := by simp [hl]
    refine ⟨?inTote, ?inSlot, ?lost⟩ <;> rintro rfl <;> rw [exec_transferConfirm_taken h hq]
    case inTote =>
      simp only [State.confirmCoded_zero, State.transferConfirm_reply ht, ConfirmOutcome.inTote_contradicts,
        State.confirmPick_inTote_reply hn]
    case inSlot =>
      simp only [State.confirmCoded_one, State.transferConfirm_reply ht, ConfirmOutcome.inSlot_contradicts,
        State.confirmPick_inSlot_reply hn]
    case lost =>
      rw [State.confirmCoded_two, State.transferConfirm_reply ht, ConfirmOutcome.lost_contradicts,
        if_neg Bool.false_ne_true, State.confirmPick_lost_reply hn]

end Sys2Proof.Machine
end
